-- ==== Sys2Proof/Word.lean ====
section
/-! DEFINITION. The words of the block: the command word, the register operands and the two signed sample widths. -/

namespace Sys2Proof

/-- The 19-bit command word of R82: `kind` in bits 18:17, `addr` in bits 16:8, `data` in bits 7:0. -/
abbrev CommandWord := BitVec 19

/-- The data byte `v` of a WRITE, and its function byte `r` (R82, R84). -/
abbrev Byte := BitVec 8

/-- `Int16` of the spec (R11): sixteen bits in two's complement, read with `BitVec.toInt`. -/
abbrev S16 := BitVec 16

/-- `Int32` of the spec (R11): thirty-two bits in two's complement, read with `BitVec.toInt`. -/
abbrev S32 := BitVec 32

/-- A channel index `c` in 0..5 (R9, R13). -/
abbrev ChanIx := Fin 6

/-- An operator slot `s` in 0..3 (R9, R13). -/
abbrev Slot := Fin 4

/-- A channel-3 override index `k` in 0..2 (R38). -/
abbrev OverrideIx := Fin 3

end Sys2Proof
end

