-- ==== Sys2Proof/Syntax.lean ====
section
/-! DEFINITION. The commands of the block, one constructor per row of spec/opcode_table.json. -/

namespace Sys2Proof

/-- One decoded command. The operands are the fields of R85, R86 and R88 to R92: channel and slot are already indexes, and bits the layouts do not name are gone (R93). -/
inductive Instr where
  /-- WR_MODE, register 0x27 (R212): the two mode bits `v[7:6]`. -/
  | wrMode (mode : BitVec 2)
  /-- WR_KEY, register 0x28 (R213): the addressed channel, and the four key bits, bit `s` for slot `s`. -/
  | wrKey (c : ChanIx) (keys : BitVec 4)
  /-- WR_DT_MUL, registers 0x30-0x3F (R214). -/
  | wrDtMul (c : ChanIx) (s : Slot) (det : BitVec 3) (mul : BitVec 4)
  /-- WR_TL, registers 0x40-0x4F (R215). -/
  | wrTl (c : ChanIx) (s : Slot) (tl : BitVec 7)
  /-- WR_KS_AR, registers 0x50-0x5F (R216). -/
  | wrKsAr (c : ChanIx) (s : Slot) (ks : BitVec 2) (ar : BitVec 5)
  /-- WR_DR, registers 0x60-0x6F (R217). -/
  | wrDr (c : ChanIx) (s : Slot) (dr : BitVec 5)
  /-- WR_SR, registers 0x70-0x7F (R218). -/
  | wrSr (c : ChanIx) (s : Slot) (sr : BitVec 5)
  /-- WR_SL_RR, registers 0x80-0x8F (R219). -/
  | wrSlRr (c : ChanIx) (s : Slot) (sl : BitVec 4) (rr : BitVec 4)
  /-- WR_FNUM_HI, registers 0xA4-0xA7 and 0xAC-0xAF (R220): block and fnum[10:8] for the latch. -/
  | wrFnumHi (block : BitVec 3) (fnumHi : BitVec 3)
  /-- WR_FNUM_LO, registers 0xA0-0xA2 (R221): fnum[7:0] of a channel. -/
  | wrFnumLo (c : ChanIx) (fnumLo : BitVec 8)
  /-- WR_CH3_FNUM_LO, registers 0xA8-0xAB (R222): fnum[7:0] of a channel-3 override. -/
  | wrCh3FnumLo (k : OverrideIx) (fnumLo : BitVec 8)
  /-- WR_ALG_FB, registers 0xB0-0xB2 (R223). -/
  | wrAlgFb (c : ChanIx) (alg : BitVec 3) (fb : BitVec 3)
  /-- WR_PAN, registers 0xB4-0xB6 (R224). -/
  | wrPan (c : ChanIx) (left : Bool) (right : Bool)
  /-- SAMPLE (R250). -/
  | sample
  /-- RESET (R330). -/
  | reset
  /-- IGNORE (R211): a WRITE word whose address has no defined meaning. -/
  | ignore (bank : BitVec 1) (r : Byte) (v : Byte)
  deriving DecidableEq, Repr

/-- The row of spec/opcode_table.json a command stands for, as the table spells it. -/
def Instr.mnemonic : Instr → String
  | .wrMode _ => "WR_MODE"
  | .wrKey _ _ => "WR_KEY"
  | .wrDtMul _ _ _ _ => "WR_DT_MUL"
  | .wrTl _ _ _ => "WR_TL"
  | .wrKsAr _ _ _ _ => "WR_KS_AR"
  | .wrDr _ _ _ => "WR_DR"
  | .wrSr _ _ _ => "WR_SR"
  | .wrSlRr _ _ _ _ => "WR_SL_RR"
  | .wrFnumHi _ _ => "WR_FNUM_HI"
  | .wrFnumLo _ _ => "WR_FNUM_LO"
  | .wrCh3FnumLo _ _ => "WR_CH3_FNUM_LO"
  | .wrAlgFb _ _ _ => "WR_ALG_FB"
  | .wrPan _ _ _ => "WR_PAN"
  | .sample => "SAMPLE"
  | .reset => "RESET"
  | .ignore _ _ _ => "IGNORE"

/-- A command is a register write unless it is SAMPLE or RESET (R81). -/
def Instr.isWrite : Instr → Bool
  | .sample => false
  | .reset => false
  | .wrMode _ => true
  | .wrKey _ _ => true
  | .wrDtMul _ _ _ _ => true
  | .wrTl _ _ _ => true
  | .wrKsAr _ _ _ _ => true
  | .wrDr _ _ _ => true
  | .wrSr _ _ _ => true
  | .wrSlRr _ _ _ _ => true
  | .wrFnumHi _ _ => true
  | .wrFnumLo _ _ => true
  | .wrCh3FnumLo _ _ => true
  | .wrAlgFb _ _ _ => true
  | .wrPan _ _ _ => true
  | .ignore _ _ _ => true

end Sys2Proof
end

