-- ==== Sys2Proof/WellFormed.lean ====
section
/-! DEFINITION. Which terms of Instr the encoding can carry. The indexes are bounded by their types, so the one check left is that an IGNORE really is an address the spec ignores. -/

namespace Sys2Proof

/-- The addresses no register of R87 has: R93's ranges 0x00-0x26, 0x29-0x2F, 0x90-0x9F and 0xB8-0xFF. -/
def unmappedFunction (r : Byte) : Bool :=
  r ≤ 0x26#8 || (0x29#8 ≤ r && r ≤ 0x2F#8) || (0x90#8 ≤ r && r ≤ 0x9F#8) || 0xB8#8 ≤ r

/-- The addresses inside a listed range whose low bits name no channel: R93's 0xA3, 0xB3, 0xB7 and the operator registers 0x30-0x8F with `r[1:0] = 3`. -/
def noSuchChannel (r : Byte) : Bool :=
  r == 0xA3#8 || r == 0xB3#8 || r == 0xB7#8 ||
    (0x30#8 ≤ r && r ≤ 0x8F#8 && r.extractLsb' 0 2 == 3#2)

/-- A key write whose channel selector is 3: R93's 0x28 with `v[1:0] = 3`. -/
def noSuchKeyChannel (r v : Byte) : Bool :=
  r == 0x28#8 && v.extractLsb' 0 2 == 3#2

/-- R93: the WRITEs that are ignored, as that rule lists them. -/
def ignoredWrite (r v : Byte) : Bool :=
  unmappedFunction r || noSuchChannel r || noSuchKeyChannel r v

/-- A command the encoding can carry. -/
def Instr.wellFormed : Instr → Bool
  | .ignore _ r v => ignoredWrite r v
  | .wrMode _ => true
  | .wrKey _ _ => true
  | .wrDtMul _ _ _ _ => true
  | .wrTl _ _ _ => true
  | .wrKsAr _ _ _ _ => true
  | .wrDr _ _ _ => true
  | .wrSr _ _ _ => true
  | .wrSlRr _ _ _ _ => true
  | .wrFnumHi _ _ => true
  | .wrFnumLo _ _ => true
  | .wrCh3FnumLo _ _ => true
  | .wrAlgFb _ _ _ => true
  | .wrPan _ _ _ => true
  | .sample => true
  | .reset => true

end Sys2Proof
end

