-- ==== Sys2Proof/Decode.lean ====
section
/-! DEFINITION. The decoder of command words (R82 to R94, R210), total on every word, then the encoder, then the opcode table as rows. -/

namespace Sys2Proof

/-- Why the decoder refuses a word. -/
inductive DecodeReject where
  /-- Command kind 0b11, which is not a command (R82, R94). -/
  | reservedKind
  deriving DecidableEq, Repr

/-- R85: `c <- cs + 3 * bank`, for a channel selector 0, 1 or 2; the selector 3 names no channel. -/
def chanIndex (bank : BitVec 1) (cs : BitVec 2) : Option ChanIx :=
  if cs = 3#2 then none else some (Fin.ofNat 6 (cs.toNat + 3 * bank.toNat))

/-- R86: `s <- (r[3] << 0) | (r[2] << 1)`. -/
def slotIndex (r : Byte) : Slot :=
  Fin.ofNat 4 ((r.extractLsb' 3 1).toNat + 2 * (r.extractLsb' 2 1).toNat)

/-- R90: the override index is `r[1:0] mod 3`. -/
def overrideIndex (r : Byte) : OverrideIx :=
  Fin.ofNat 3 (r.extractLsb' 0 2).toNat

/-- R93: a write whose selector names no channel is ignored; any other acts on that channel. -/
def onChannel (c : Option ChanIx) (orElse : Instr) (act : ChanIx → Instr) : Instr :=
  match c with
  | some c => act c
  | none => orElse

/-- The operator registers 0x30-0x8F, by their high digit `r[7:4]` (R210, layouts R88). -/
def decodeOperatorWrite (c : ChanIx) (s : Slot) (digit : BitVec 4) (v : Byte) : Instr :=
  if digit = 3#4 then .wrDtMul c s (v.extractLsb' 4 3) (v.extractLsb' 0 4)
  else if digit = 4#4 then .wrTl c s (v.extractLsb' 0 7)
  else if digit = 5#4 then .wrKsAr c s (v.extractLsb' 6 2) (v.extractLsb' 0 5)
  else if digit = 6#4 then .wrDr c s (v.extractLsb' 0 5)
  else if digit = 7#4 then .wrSr c s (v.extractLsb' 0 5)
  else .wrSlRr c s (v.extractLsb' 4 4) (v.extractLsb' 0 4)

/-- The frequency registers 0xA0-0xAF, by `r[3:2]` (R210, layouts R90). -/
def decodeFrequencyWrite (bank : BitVec 1) (r v : Byte) : Instr :=
  if r.extractLsb' 2 1 = 1#1 then .wrFnumHi (v.extractLsb' 3 3) (v.extractLsb' 0 3)
  else if r.extractLsb' 3 1 = 1#1 then .wrCh3FnumLo (overrideIndex r) v
  else onChannel (chanIndex bank (r.extractLsb' 0 2)) (.ignore bank r v) fun c => .wrFnumLo c v

/-- R210: the decoding of a WRITE from its bank, function byte and data byte (layouts R88 to R92). -/
def decodeWrite (bank : BitVec 1) (r v : Byte) : Instr :=
  if r = 0x27#8 then .wrMode (v.extractLsb' 6 2)
  else if r = 0x28#8 then
    onChannel (chanIndex (v.extractLsb' 2 1) (v.extractLsb' 0 2)) (.ignore bank r v) fun c =>
      .wrKey c (v.extractLsb' 4 4)
  else if 0x30#8 ≤ r ∧ r ≤ 0x8F#8 then
    onChannel (chanIndex bank (r.extractLsb' 0 2)) (.ignore bank r v) fun c =>
      decodeOperatorWrite c (slotIndex r) (r.extractLsb' 4 4) v
  else if 0xA0#8 ≤ r ∧ r ≤ 0xAF#8 then decodeFrequencyWrite bank r v
  else if 0xB0#8 ≤ r ∧ r ≤ 0xB3#8 then
    onChannel (chanIndex bank (r.extractLsb' 0 2)) (.ignore bank r v) fun c =>
      .wrAlgFb c (v.extractLsb' 0 3) (v.extractLsb' 3 3)
  else if 0xB4#8 ≤ r ∧ r ≤ 0xB7#8 then
    onChannel (chanIndex bank (r.extractLsb' 0 2)) (.ignore bank r v) fun c =>
      .wrPan c (v.getLsbD 7) (v.getLsbD 6)
  else .ignore bank r v

/-- R82: the decoding of a command word. Kind 0b11 is refused by name (R94). -/
def decode (w : CommandWord) : Except DecodeReject Instr :=
  let kind := w.extractLsb' 17 2
  if kind = 0#2 then .ok (decodeWrite (w.extractLsb' 16 1) (w.extractLsb' 8 8) (w.extractLsb' 0 8))
  else if kind = 1#2 then .ok .sample
  else if kind = 2#2 then .ok .reset
  else .error .reservedKind

/-- The instruction the decoder reads from the low 19 bits of a number, numbered as spec/opcode_table.json numbers them.
A command is one 19-bit word, so `nbits` adds nothing and bits above 18 belong to no command (log entry 4). -/
def decodeTableWord (_nbits w : Nat) : Option Instr :=
  match decode (BitVec.ofNat 19 w) with
  | .ok i => some i
  | .error _ => none

/-! The encoder: for each command one word that carries it. Bits the layout ignores are written 0, and the bank is 0 where it is ignored (log entry 9). -/

/-- A WRITE word (R82). -/
def writeWord (bank : BitVec 1) (r v : Byte) : CommandWord :=
  0#2 ++ bank ++ r ++ v

/-- The bank bit of channel `c` (R85 inverted). -/
def bankOf (c : ChanIx) : BitVec 1 := BitVec.ofNat 1 (c.val / 3)

/-- The channel selector of channel `c` inside its triple (R85 inverted). -/
def selectorOf (c : ChanIx) : BitVec 2 := BitVec.ofNat 2 (c.val % 3)

/-- The slot bits `r[3:2]` of slot `s` (R86 inverted, as R97's `opreg` writes it). -/
def slotBitsOf (s : Slot) : BitVec 2 := BitVec.ofNat 1 (s.val % 2) ++ BitVec.ofNat 1 (s.val / 2)

/-- The word of an operator register whose high digit is `digit` (R85, R86). -/
def operatorWord (digit : BitVec 4) (c : ChanIx) (s : Slot) (v : Byte) : CommandWord :=
  writeWord (bankOf c) (digit ++ slotBitsOf s ++ selectorOf c) v

/-- The word of a channel register whose upper six address bits are `group` (R85). -/
def channelWord (group : BitVec 6) (c : ChanIx) (v : Byte) : CommandWord :=
  writeWord (bankOf c) (group ++ selectorOf c) v

/-- The encoder (R82, R85 to R92). -/
def encode : Instr → CommandWord
  | .wrMode mode => writeWord 0#1 0x27#8 (mode ++ 0#6)
  | .wrKey c keys => writeWord 0#1 0x28#8 (keys ++ 0#1 ++ bankOf c ++ selectorOf c)
  | .wrDtMul c s det mul => operatorWord 3#4 c s (0#1 ++ det ++ mul)
  | .wrTl c s tl => operatorWord 4#4 c s (0#1 ++ tl)
  | .wrKsAr c s ks ar => operatorWord 5#4 c s (ks ++ 0#1 ++ ar)
  | .wrDr c s dr => operatorWord 6#4 c s (0#3 ++ dr)
  | .wrSr c s sr => operatorWord 7#4 c s (0#3 ++ sr)
  | .wrSlRr c s sl rr => operatorWord 8#4 c s (sl ++ rr)
  | .wrFnumHi block fnumHi => writeWord 0#1 0xA4#8 (0#2 ++ block ++ fnumHi)
  | .wrFnumLo c fnumLo => channelWord 0x28#6 c fnumLo
  | .wrCh3FnumLo k fnumLo => writeWord 0#1 (0x2A#6 ++ BitVec.ofNat 2 k.val) fnumLo
  | .wrAlgFb c alg fb => channelWord 0x2C#6 c (0#2 ++ fb ++ alg)
  | .wrPan c left right => channelWord 0x2D#6 c (BitVec.ofBool left ++ BitVec.ofBool right ++ 0#6)
  | .sample => 0x20000#19
  | .reset => 0x40000#19
  | .ignore bank r v => writeWord bank r v

/-! The opcode table as rows, to hold the decoder against. -/

/-- A pattern over command words: a word fits when its bits under `mask` are those of `value`. -/
structure Pattern where
  mask : CommandWord
  value : CommandWord
  deriving DecidableEq, Repr

/-- `word & mask == match` (INDEX.md). -/
def Pattern.fits (p : Pattern) (w : CommandWord) : Bool := w &&& p.mask == p.value

/-- One row of spec/opcode_table.json: its mnemonic, its pattern and its exclude list. -/
structure OpcodeRow where
  mnemonic : String
  pattern : Pattern
  exclude : List Pattern
  deriving DecidableEq, Repr

/-- A row matches a word when its pattern fits and no entry of its exclude list does (INDEX.md). -/
def OpcodeRow.covers (row : OpcodeRow) (w : CommandWord) : Bool :=
  row.pattern.fits w && !row.exclude.any (·.fits w)

/-- The rows of priority 0 for the operator registers (spec/opcode_table.json). -/
def operatorRows : List OpcodeRow :=
  [ ⟨"WR_DT_MUL", ⟨0x6f000#19, 0x3000#19⟩, [⟨0x6f300#19, 0x3300#19⟩]⟩,
    ⟨"WR_TL", ⟨0x6f000#19, 0x4000#19⟩, [⟨0x6f300#19, 0x4300#19⟩]⟩,
    ⟨"WR_KS_AR", ⟨0x6f000#19, 0x5000#19⟩, [⟨0x6f300#19, 0x5300#19⟩]⟩,
    ⟨"WR_DR", ⟨0x6f000#19, 0x6000#19⟩, [⟨0x6f300#19, 0x6300#19⟩]⟩,
    ⟨"WR_SR", ⟨0x6f000#19, 0x7000#19⟩, [⟨0x6f300#19, 0x7300#19⟩]⟩,
    ⟨"WR_SL_RR", ⟨0x6f000#19, 0x8000#19⟩, [⟨0x6f300#19, 0x8300#19⟩]⟩ ]

/-- The other rows of priority 0 (spec/opcode_table.json). -/
def otherRows : List OpcodeRow :=
  [ ⟨"WR_MODE", ⟨0x6ff00#19, 0x2700#19⟩, []⟩,
    ⟨"WR_KEY", ⟨0x6ff00#19, 0x2800#19⟩, [⟨0x6ff03#19, 0x2803#19⟩]⟩,
    ⟨"WR_FNUM_HI", ⟨0x6f400#19, 0xa400#19⟩, []⟩,
    ⟨"WR_FNUM_LO", ⟨0x6fc00#19, 0xa000#19⟩, [⟨0x6ff00#19, 0xa300#19⟩]⟩,
    ⟨"WR_CH3_FNUM_LO", ⟨0x6fc00#19, 0xa800#19⟩, []⟩,
    ⟨"WR_ALG_FB", ⟨0x6fc00#19, 0xb000#19⟩, [⟨0x6ff00#19, 0xb300#19⟩]⟩,
    ⟨"WR_PAN", ⟨0x6fc00#19, 0xb400#19⟩, [⟨0x6ff00#19, 0xb700#19⟩]⟩,
    ⟨"SAMPLE", ⟨0x60000#19, 0x20000#19⟩, []⟩,
    ⟨"RESET", ⟨0x60000#19, 0x40000#19⟩, []⟩ ]

/-- All rows of priority 0; they never overlap (INDEX.md). -/
def priorityRows : List OpcodeRow := operatorRows ++ otherRows

/-- The row of priority 1: the WRITE words no row of priority 0 matches. -/
def ignoreRow : OpcodeRow := ⟨"IGNORE", ⟨0x60000#19, 0#19⟩, []⟩

/-- The mnemonic the table gives a word: the first row that covers it, the rows of priority 0 before IGNORE. -/
def tableMnemonic (w : CommandWord) : Option String :=
  ((priorityRows ++ [ignoreRow]).find? (·.covers w)).map (·.mnemonic)

end Sys2Proof
end

