-- ==== Sys2Proof/Config.lean ====
section
/-! DEFINITION. What an implementation of the block fixes (R10 and the parameter table of 92_eei_decisions.md). The default values stand in Machine/Tables.lean. -/

namespace Sys2Proof

/-- The parameters of the block: the five constant tables of R10, each a total function, and the modulation pre-scale of R183.
They are configuration, not state (R21), and nothing writes them (R61). -/
structure Config where
  /-- `LOGSIN_TAB`, the quarter-wave log-sine ROM (R118, R119). -/
  logsinTab : BitVec 8 → BitVec 12
  /-- `EXP_TAB`, the antilog table (R120, R121). -/
  expTab : BitVec 8 → BitVec 11
  /-- `RATE_INC_TAB`, row `sel`, column the clock-derived phase (R146, R147). -/
  rateIncTab : BitVec 2 → BitVec 3 → Nat
  /-- `DT_TAB`, row `det[1:0]`, column the keycode (R113, R114). -/
  dtTab : BitVec 2 → BitVec 5 → BitVec 5
  /-- `FK_TAB`, indexed by fnum bits 10:7 (R111, R112). -/
  fkTab : BitVec 4 → BitVec 2
  /-- `MOD_SHIFT`, the arithmetic shift of a modulation input (R183). -/
  modShift : Nat

end Sys2Proof
end

