-- ==== Sys2Proof/Machine/State.lean ====
section
/-! DEFINITION. The state of the block (10_state.md), its reset value, and how a step can stop. -/

namespace Sys2Proof.Machine

/-- The five envelope states of R140. -/
inductive EgState where
  | attack
  | decay
  | sustain
  | release
  | off
  deriving DecidableEq, Repr

/-- The channel-3 modes of R38. -/
inductive Ch3Mode where
  | normal
  | csm
  | special
  deriving DecidableEq, Repr

/-- One operator `op[c][s]`, the fields of R22. The keycode and the rate triple are derived values and are not held (R29, R157). -/
structure Operator where
  /-- phase accumulator (R23) -/
  phase : BitVec 20
  /-- attenuation, 0 loudest, 1023 silent (R24) -/
  env : BitVec 10
  /-- envelope state (R25) -/
  egState : EgState
  /-- envelope tick counter (R26) -/
  egClock : BitVec 32
  /-- note logically held (R27) -/
  keyon : Bool
  /-- total level (R28) -/
  tl : BitVec 7
  /-- sustain level (R28) -/
  sl : BitVec 4
  /-- attack rate (R28) -/
  ar : BitVec 5
  /-- decay rate (R28) -/
  dr : BitVec 5
  /-- sustain rate (R28) -/
  sr : BitVec 5
  /-- release rate (R28) -/
  rr : BitVec 4
  /-- frequency multiplier (R28) -/
  mul : BitVec 4
  /-- detune (R28) -/
  det : BitVec 3
  /-- key scale (R28) -/
  ks : BitVec 2
  deriving DecidableEq, Repr

/-- One channel `ch[c]`: its four operators and the fields of R32. -/
structure Channel where
  ops : Vector Operator 4
  /-- older of the two most recent slot-0 outputs (R33) -/
  fbMem1 : S16
  /-- most recent slot-0 output (R33) -/
  fbMem2 : S16
  /-- one-sample delay cell of the algorithm (R34) -/
  algMem : S32
  /-- algorithm (R35) -/
  alg : BitVec 3
  /-- feedback depth, 0 is off (R35) -/
  fb : BitVec 3
  /-- octave (R35) -/
  block : BitVec 3
  /-- frequency number (R35) -/
  fnum : BitVec 11
  deriving DecidableEq, Repr

/-- The device `dev`: its six channels and the fields of R36. -/
structure Device where
  ch : Vector Channel 6
  /-- block and fnum[10:8] of a pending frequency write (R37) -/
  latch : BitVec 6
  /-- channel-3 mode (R38) -/
  ch3Mode : Ch3Mode
  /-- channel-3 fnum overrides (R38) -/
  ch3Fnum : Vector (BitVec 11) 3
  /-- channel-3 block overrides (R38) -/
  ch3Block : Vector (BitVec 3) 3
  /-- envelope clock divider, 0 to 2 (R39, log entry 12) -/
  envDiv : Fin 3
  /-- left output enable of each channel (R40) -/
  panL : Vector Bool 6
  /-- right output enable of each channel (R40) -/
  panR : Vector Bool 6
  deriving DecidableEq, Repr

/-- One output frame `(Lout, Rout)` (R250, R253). -/
structure Frame where
  left : S32
  right : S32
  deriving DecidableEq, Repr

/-- The machine: the block's device record (R21), and the block's two ports to the host: the commands delivered and not yet run (R80, log entry 1)
and the frames emitted so far, oldest first (R250, R255, log entry 3). -/
structure State where
  dev : Device
  commands : List CommandWord
  frames : List Frame
  deriving DecidableEq, Repr

/-- The faults of a step: none. "The block raises no exception" (R300), so no meaning can end in a fault. -/
inductive Fault where
  deriving DecidableEq, Repr

/-- Why a step is refused. -/
inductive Refusal where
  /-- An instruction with no meaning in the model, raised by exec alone. Safe: nothing can be proved of a run past it. No arm raises it. -/
  | notModelled (mnemonic : String)
  /-- A command word of kind 0b11, raised by step. Safe: the spec gives it no step (R94, R301, log entry 10). -/
  | reservedKind
  deriving DecidableEq, Repr

/-- The reset column of R22. -/
def Operator.reset : Operator where
  phase := 0#20
  env := 1023#10
  egState := .release
  egClock := 0#32
  keyon := false
  tl := 0#7
  sl := 0#4
  ar := 0#5
  dr := 0#5
  sr := 0#5
  rr := 0#4
  mul := 0#4
  det := 0#3
  ks := 0#2

/-- The reset column of R32. -/
def Channel.reset : Channel where
  ops := Vector.replicate 4 Operator.reset
  fbMem1 := 0#16
  fbMem2 := 0#16
  algMem := 0#32
  alg := 0#3
  fb := 0#3
  block := 0#3
  fnum := 0#11

/-- The reset column of R36. -/
def Device.reset : Device where
  ch := Vector.replicate 6 Channel.reset
  latch := 0#6
  ch3Mode := .normal
  ch3Fnum := Vector.replicate 3 0#11
  ch3Block := Vector.replicate 3 0#3
  envDiv := 0
  panL := Vector.replicate 6 true
  panR := Vector.replicate 6 true

/-- The machine right after reset (R331): the device in its reset state, no command delivered and no frame emitted (log entries 1 and 3). -/
def State.reset : State where
  dev := Device.reset
  commands := []
  frames := []

end Sys2Proof.Machine
end

