-- ==== Sys2Proof/Machine/Ops.lean ====
section
/-! DEFINITION. The arithmetic primitives of R12 and the state primitives of R13, over which every meaning is written. -/

namespace Sys2Proof.Machine

/-- R12: `a >> n` on a signed value, floor(a / 2^n). -/
def asr (a : Int) (n : Nat) : Int := a / 2 ^ n

/-- R12: `clamp(v, lo, hi)` is min(max(v, lo), hi). -/
def clamp (v lo hi : Int) : Int := min (max v lo) hi

/-- R12: `wrap16`. -/
def wrap16 (v : Int) : S16 := BitVec.ofInt 16 v

/-- R12: `wrap32`. -/
def wrap32 (v : Int) : S32 := BitVec.ofInt 32 v

/-- R13: `ch[c]`. -/
def Device.chan (d : Device) (c : ChanIx) : Channel := d.ch[c]

/-- Operator slot `s` of a channel (R21). -/
def Channel.op (x : Channel) (s : Slot) : Operator := x.ops[s]

/-- R13: `op[c][s]`. -/
def Device.op (d : Device) (c : ChanIx) (s : Slot) : Operator := (d.chan c).op s

/-- A write to channel `c` alone. -/
def Device.updateChan (d : Device) (c : ChanIx) (f : Channel → Channel) : Device :=
  { d with ch := d.ch.set c (f (d.chan c)) }

/-- A write to operator slot `s` alone. -/
def Channel.updateOp (x : Channel) (s : Slot) (f : Operator → Operator) : Channel :=
  { x with ops := x.ops.set s (f (x.op s)) }

/-- A write to operator `op[c][s]` alone. -/
def Device.updateOp (d : Device) (c : ChanIx) (s : Slot) (f : Operator → Operator) : Device :=
  d.updateChan c (·.updateOp s f)

/-- A loop over the six channels (R250), each from the state before the loop: a channel's step reads no other channel (R252, log entry 8). -/
def Device.mapChans (d : Device) (f : ChanIx → Channel → Channel) : Device :=
  { d with ch := Vector.ofFn fun c => f c (d.chan c) }

/-- A loop over the four slots of a channel (R250), each from the state before the loop (log entry 8). -/
def Channel.mapOps (x : Channel) (f : Slot → Operator → Operator) : Channel :=
  { x with ops := Vector.ofFn fun s => f s (x.op s) }

/-- A loop over the 24 operators (R250), each from the state before the loop: an operator's step reads no other operator (R252, log entry 8). -/
def Device.mapOps (d : Device) (f : ChanIx → Slot → Operator → Operator) : Device :=
  d.mapChans fun c x => x.mapOps (f c)

/-- A state whose device is changed and whose ports are not. -/
def State.updateDev (s : State) (f : Device → Device) : State := { s with dev := f s.dev }

end Sys2Proof.Machine
end

