-- ==== Sys2Proof/Machine/Operands.lean ====
section
/-! DEFINITION. The operands a meaning forms from its fields and the state: the latched frequency pair, the channel-3 mode, the effective frequency and the keycode. -/

namespace Sys2Proof.Machine

/-- R92: the mode codes 0 NORMAL, 1 SPECIAL, 2 and 3 CSM. -/
def ch3ModeOf (code : BitVec 2) : Ch3Mode :=
  if code = 0#2 then .normal
  else if code = 1#2 then .special
  else .csm

/-- R90: `fnum = {latch[2:0], v[7:0]}`. -/
def latchedFnum (latch : BitVec 6) (v : Byte) : BitVec 11 := latch.extractLsb' 0 3 ++ v

/-- R90: `block = latch[5:3]`. -/
def latchedBlock (latch : BitVec 6) : BitVec 3 := latch.extractLsb' 3 3

/-- The `(fnum, block)` pair an operator uses (R110). -/
structure Frequency where
  fnum : BitVec 11
  block : BitVec 3
  deriving DecidableEq, Repr

/-- R110: `EffFreq(c, s)`. In SPECIAL mode slots 0 to 2 of channel 2 use their overrides; every other operator uses its channel's pair. -/
def effFreq (d : Device) (c : ChanIx) (s : Slot) : Frequency :=
  if h : c = 2 ∧ d.ch3Mode = .special ∧ s.val < 3 then
    ⟨d.ch3Fnum[s.val]'h.2.2, d.ch3Block[s.val]'h.2.2⟩
  else ⟨(d.chan c).fnum, (d.chan c).block⟩

/-- R111: the keycode of a frequency pair, `(block << 2) | FK_TAB[fnum[10:7]]`. -/
def keycodeOf (cfg : Config) (f : Frequency) : BitVec 5 :=
  f.block ++ cfg.fkTab (f.fnum.extractLsb' 7 4)

/-- R111: `KC(c, s)`. -/
def keycode (cfg : Config) (d : Device) (c : ChanIx) (s : Slot) : BitVec 5 :=
  keycodeOf cfg (effFreq d c s)

end Sys2Proof.Machine
end

