-- ==== Sys2Proof/Machine/Envelope.lean ====
section
/-! DEFINITION. The envelope generator of 41_envelope.md: the rate triple, the tick, key-on and key-off. -/

namespace Sys2Proof.Machine

/-- R141: the stage rate of the active envelope state. -/
def stageRate (o : Operator) : Nat :=
  match o.egState with
  | .attack => o.ar.toNat
  | .decay => o.dr.toNat
  | .sustain => o.sr.toNat
  | .release => 2 * o.rr.toNat + 1
  | .off => 0

/-- R143: `KSR = KC >> (3 - ks)`. -/
def keyScaledOffset (kc : BitVec 5) (ks : BitVec 2) : Nat := kc.toNat / 2 ^ (3 - ks.toNat)

/-- R144: the effective rate, clamped to 63. -/
def effectiveRate (o : Operator) (kc : BitVec 5) : Nat :=
  min (2 * stageRate o + keyScaledOffset kc o.ks) 63

/-- The rate triple of R145. -/
structure RateTriple where
  sel : BitVec 2
  mul : Nat
  shift : Nat
  deriving DecidableEq, Repr

/-- R145: the triple of an effective rate, with the split at `g = r >> 2` that 90_conflicts.md C1 settles. -/
def tripleOfRate (r : Nat) : RateTriple :=
  let g := r / 4
  if 12 ≤ g then ⟨BitVec.ofNat 2 r, 2 ^ (g - 12), 0⟩ else ⟨BitVec.ofNat 2 r, 1, 11 - g⟩

/-- R142 and R145: `RateOf`; a stage rate of 0 gives the triple (0, 0, 0). -/
def rateOf (o : Operator) (kc : BitVec 5) : RateTriple :=
  if stageRate o = 0 then ⟨0#2, 0, 0⟩ else tripleOfRate (effectiveRate o kc)

/-- R147: the update is applied only when the low `shift` bits of the clock are all zero. -/
def gateOpen (t : RateTriple) (clk : BitVec 32) : Bool := clk.toNat % 2 ^ t.shift == 0

/-- R147: `RATE_INC_TAB[sel][(clk >> shift) mod 8] * mul`. -/
def envIncrement (cfg : Config) (t : RateTriple) (clk : BitVec 32) : Nat :=
  cfg.rateIncTab t.sel (BitVec.ofNat 3 (clk.toNat / 2 ^ t.shift)) * t.mul

/-- R150: `SLT(sl)`. -/
def sustainThreshold (sl : BitVec 4) : Nat := (if sl = 15#4 then 31 else sl.toNat) * 2 ^ 5

/-- R148: the ATTACK update. -/
def attackUpdate (inc : Nat) (o : Operator) : Operator :=
  let env : Int := o.env.toNat
  let e := env + asr ((-env - 1) * inc) 4
  if e ≤ 0 then { o with env := 0#10, egState := .decay } else { o with env := BitVec.ofInt 10 e }

/-- R149 and R151: `min(env + inc, 1023)`. -/
def raisedEnv (inc : Nat) (o : Operator) : Nat := min (o.env.toNat + inc) 1023

/-- R149: the DECAY update, with the threshold read after the addition. -/
def decayUpdate (inc : Nat) (o : Operator) : Operator :=
  let e := raisedEnv inc o
  if sustainThreshold o.sl ≤ e then { o with env := BitVec.ofNat 10 e, egState := .sustain }
  else { o with env := BitVec.ofNat 10 e }

/-- R151: the SUSTAIN update. -/
def sustainUpdate (inc : Nat) (o : Operator) : Operator :=
  { o with env := BitVec.ofNat 10 (raisedEnv inc o) }

/-- R152: the RELEASE update. -/
def releaseUpdate (inc : Nat) (o : Operator) : Operator :=
  let e := o.env.toNat + inc
  if 1023 ≤ e then { o with env := 1023#10, egState := .off } else { o with env := BitVec.ofNat 10 e }

/-- R148 to R153: the update of the active state with an increment. -/
def envUpdate (inc : Nat) (o : Operator) : Operator :=
  match o.egState with
  | .attack => attackUpdate inc o
  | .decay => decayUpdate inc o
  | .sustain => sustainUpdate inc o
  | .release => releaseUpdate inc o
  | .off => o

/-- R147 to R153: the update of one tick, before the clock advances. -/
def gatedUpdate (cfg : Config) (kc : BitVec 5) (o : Operator) : Operator :=
  let t := rateOf o kc
  if gateOpen t o.egClock then envUpdate (envIncrement cfg t o.egClock) o else o

/-- R154: the clock advance at the end of every tick. -/
def advanceClock (o : Operator) : Operator := { o with egClock := o.egClock + 1#32 }

/-- R155: `EnvelopeTick`, for an operator whose keycode is `kc`. -/
def envelopeTick (cfg : Config) (kc : BitVec 5) (o : Operator) : Operator :=
  advanceClock (gatedUpdate cfg kc o)

/-- R158: `KeyOn`, ignored if already on. -/
def keyOn (o : Operator) : Operator :=
  if o.keyon then o
  else { o with keyon := true, egState := .attack, phase := 0#20, egClock := 0#32 }

/-- R159: `KeyOff`, ignored if already off or already OFF. -/
def keyOff (o : Operator) : Operator :=
  if !o.keyon || o.egState == .off then o
  else { o with keyon := false, egState := .release }

end Sys2Proof.Machine
end

