-- ==== Sys2Proof/Machine/RegisterWrites.lean ====
section
/-! DEFINITION. The meanings of the register-write commands (43_register_writes.md). Each updates exactly the addressed parameter (R225); the rates and keycodes follow because they are computed when read (R157). -/

namespace Sys2Proof.Machine

/-- WR_MODE (R212). -/
def execWrMode (mode : BitVec 2) (s : State) : Host.Outcome State Fault Refusal :=
  .next (s.updateDev fun d => { d with ch3Mode := ch3ModeOf mode })

/-- R213: the four key bits, slot by slot; the slots are independent (R304). -/
def keySlots (keys : BitVec 4) (x : Channel) : Channel :=
  x.mapOps fun s o => if keys.getLsbD s.val then keyOn o else keyOff o

/-- WR_KEY (R213). -/
def execWrKey (c : ChanIx) (keys : BitVec 4) (s : State) : Host.Outcome State Fault Refusal :=
  .next (s.updateDev fun d => d.updateChan c (keySlots keys))

/-- WR_DT_MUL (R214). -/
def execWrDtMul (c : ChanIx) (sl : Slot) (det : BitVec 3) (mul : BitVec 4) (s : State) :
    Host.Outcome State Fault Refusal :=
  .next (s.updateDev fun d => d.updateOp c sl fun o => { o with det := det, mul := mul })

/-- WR_TL (R215). -/
def execWrTl (c : ChanIx) (sl : Slot) (tl : BitVec 7) (s : State) : Host.Outcome State Fault Refusal :=
  .next (s.updateDev fun d => d.updateOp c sl fun o => { o with tl := tl })

/-- WR_KS_AR (R216). -/
def execWrKsAr (c : ChanIx) (sl : Slot) (ks : BitVec 2) (ar : BitVec 5) (s : State) :
    Host.Outcome State Fault Refusal :=
  .next (s.updateDev fun d => d.updateOp c sl fun o => { o with ks := ks, ar := ar })

/-- WR_DR (R217). -/
def execWrDr (c : ChanIx) (sl : Slot) (dr : BitVec 5) (s : State) : Host.Outcome State Fault Refusal :=
  .next (s.updateDev fun d => d.updateOp c sl fun o => { o with dr := dr })

/-- WR_SR (R218). -/
def execWrSr (c : ChanIx) (sl : Slot) (sr : BitVec 5) (s : State) : Host.Outcome State Fault Refusal :=
  .next (s.updateDev fun d => d.updateOp c sl fun o => { o with sr := sr })

/-- WR_SL_RR (R219). -/
def execWrSlRr (c : ChanIx) (slot : Slot) (sl rr : BitVec 4) (s : State) :
    Host.Outcome State Fault Refusal :=
  .next (s.updateDev fun d => d.updateOp c slot fun o => { o with sl := sl, rr := rr })

/-- WR_FNUM_HI (R220): the latch, and no frequency. -/
def execWrFnumHi (block fnumHi : BitVec 3) (s : State) : Host.Outcome State Fault Refusal :=
  .next (s.updateDev fun d => { d with latch := block ++ fnumHi })

/-- WR_FNUM_LO (R221): the latched pair, to a channel. -/
def execWrFnumLo (c : ChanIx) (fnumLo : Byte) (s : State) : Host.Outcome State Fault Refusal :=
  .next (s.updateDev fun d => d.updateChan c fun x =>
    { x with fnum := latchedFnum d.latch fnumLo, block := latchedBlock d.latch })

/-- WR_CH3_FNUM_LO (R222): the latched pair, to a channel-3 override. -/
def execWrCh3FnumLo (k : OverrideIx) (fnumLo : Byte) (s : State) : Host.Outcome State Fault Refusal :=
  .next (s.updateDev fun d =>
    { d with
      ch3Fnum := d.ch3Fnum.set k (latchedFnum d.latch fnumLo)
      ch3Block := d.ch3Block.set k (latchedBlock d.latch) })

/-- WR_ALG_FB (R223); the memories are not cleared (R195). -/
def execWrAlgFb (c : ChanIx) (alg fb : BitVec 3) (s : State) : Host.Outcome State Fault Refusal :=
  .next (s.updateDev fun d => d.updateChan c fun x => { x with alg := alg, fb := fb })

/-- WR_PAN (R224). -/
def execWrPan (c : ChanIx) (left right : Bool) (s : State) : Host.Outcome State Fault Refusal :=
  .next (s.updateDev fun d => { d with panL := d.panL.set c left, panR := d.panR.set c right })

/-- IGNORE (R211): no state changes. -/
def execIgnore (s : State) : Host.Outcome State Fault Refusal := .next s

end Sys2Proof.Machine
end

