-- ==== Sys2Proof/Machine/Waveform.lean ====
section
/-! DEFINITION. The operator datapath of 40_operator.md: the phase increment, the phase advance and the waveform output. -/

namespace Sys2Proof.Machine

/-- R113: `base = (fnum << block) >> 1`, 17 bits. -/
def phaseBase (f : Frequency) : BitVec 17 :=
  BitVec.ofNat 17 (f.fnum.toNat * 2 ^ f.block.toNat / 2)

/-- R113: the base with its detune added, or subtracted when `det[2] = 1`, modulo 2^17. -/
def detunedBase (cfg : Config) (f : Frequency) (det : BitVec 3) : BitVec 17 :=
  let dt := (cfg.dtTab (det.extractLsb' 0 2) (keycodeOf cfg f)).setWidth 17
  if det.getLsbD 2 then phaseBase f - dt else phaseBase f + dt

/-- R113: the phase increment of a frequency pair, a detune and a multiplier; multiplier 0 is one half. -/
def phaseIncOf (cfg : Config) (f : Frequency) (det : BitVec 3) (mul : BitVec 4) : BitVec 21 :=
  let base := (detunedBase cfg f det).toNat
  BitVec.ofNat 21 (if mul = 0#4 then base / 2 else base * mul.toNat)

/-- R113: `PhaseInc(c, s)`. -/
def phaseInc (cfg : Config) (d : Device) (c : ChanIx) (s : Slot) : BitVec 21 :=
  phaseIncOf cfg (effFreq d c s) (d.op c s).det (d.op c s).mul

/-- R115: `phase <- mod(phase + inc, 2^20)`. -/
def advancePhase (inc : BitVec 21) (o : Operator) : Operator :=
  { o with phase := o.phase + inc.setWidth 20 }

/-- R117: `p = mod(phase[19:10] + M, 1024)`. -/
def waveIndex (phase : BitVec 20) (m : Int) : BitVec 10 :=
  BitVec.ofInt 10 ((phase.extractLsb' 10 10).toNat + m)

/-- R118: the quarter index, complemented in the second and fourth quadrants. -/
def quarterIndex (p : BitVec 10) : BitVec 8 :=
  if p.getLsbD 8 then ~~~(p.extractLsb' 0 8) else p.extractLsb' 0 8

/-- R118: the attenuation `L = LOGSIN_TAB[q] + (env << 2) + (tl << 5)`. -/
def attenuation (cfg : Config) (q : BitVec 8) (env : BitVec 10) (tl : BitVec 7) : Nat :=
  (cfg.logsinTab q).toNat + env.toNat * 2 ^ 2 + tl.toNat * 2 ^ 5

/-- R120: `mag = (EXP_TAB[L[7:0]] << 2) >> min(L >> 8, 13)`. -/
def magnitude (cfg : Config) (l : Nat) : Nat :=
  (cfg.expTab (BitVec.ofNat 8 l)).toNat * 2 ^ 2 / 2 ^ min (l / 2 ^ 8) 13

/-- R122: the sign `p[9]`, applied last as a negation, then the clamp into Int16. -/
def signedOutput (p : BitVec 10) (mag : Nat) : S16 :=
  wrap16 (clamp (if p.getLsbD 9 then -(mag : Int) else mag) (-32768) 32767)

/-- R116: `OpOut(c, s, M)`, from the operator's phase, env and tl. -/
def opOut (cfg : Config) (o : Operator) (m : Int) : S16 :=
  let p := waveIndex o.phase m
  signedOutput p (magnitude cfg (attenuation cfg (quarterIndex p) o.env o.tl))

end Sys2Proof.Machine
end

