-- ==== Sys2Proof/Machine/Algorithm.lean ====
section
/-! DEFINITION. The channel evaluation of 42_algorithm.md: the feedback path, the eight algorithms and the channel output. -/

namespace Sys2Proof.Machine

/-- R183: the pre-scale of a modulation input. -/
def preScale (cfg : Config) (x : Int) : Int := asr x cfg.modShift

/-- R181: the feedback input of slot 0. -/
def feedbackInput (x : Channel) : Int :=
  if x.fb = 0#3 then 0 else asr (x.fbMem1.toInt + x.fbMem2.toInt) (9 - x.fb.toNat)

/-- R182: the output of slot 0 in this sample. -/
def slotZeroOut (cfg : Config) (x : Channel) : S16 := opOut cfg (x.op 0) (feedbackInput x)

/-- What the evaluation of an algorithm reads (R184): the outputs of slots 1 to 3 as functions of their modulation input,
the output of slot 0 in this sample, and the delay cell as it stood at the start. -/
structure AlgInput where
  op1 : Int → Int
  op2 : Int → Int
  op3 : Int → Int
  o0 : Int
  delay : Int
  /-- the pre-scale of R183 -/
  pre : Int → Int

/-- What the evaluation of an algorithm gives: the store to the delay cell, none where it is left unchanged, and the sum of the carriers. -/
structure AlgResult where
  store : Option Int
  sum : Int
  deriving DecidableEq, Repr

/-- R185: `0 => 1 =>[D] 2 => 3 => OUT`. -/
def algorithm0 (a : AlgInput) : AlgResult :=
  let o2 := a.op2 (a.pre a.delay)
  let o1 := a.op1 (a.pre a.o0)
  let o3 := a.op3 (a.pre o2)
  ⟨some o1, o3⟩

/-- R186: `(0 + 1) =>[D] 2 => 3 => OUT`. -/
def algorithm1 (a : AlgInput) : AlgResult :=
  let o2 := a.op2 (a.pre a.delay)
  let o1 := a.op1 0
  let o3 := a.op3 (a.pre o2)
  ⟨some (a.o0 + o1), o3⟩

/-- R187: `1 =>[D] 2`, `(0 + 2) => 3 => OUT`. -/
def algorithm2 (a : AlgInput) : AlgResult :=
  let o2 := a.op2 (a.pre a.delay)
  let o1 := a.op1 0
  let o3 := a.op3 (a.pre (a.o0 + o2))
  ⟨some o1, o3⟩

/-- R188: `0 => 1 =>[D]`, `([D] + 2) => 3 => OUT`.
The delay cell is read as it stands (R195): after a change from algorithm 1 the input of slot 3 can pass the bound R194 derives for it (DEDUCED, log entry 13). -/
def algorithm3 (a : AlgInput) : AlgResult :=
  let o2 := a.op2 0
  let o1 := a.op1 (a.pre a.o0)
  let o3 := a.op3 (a.pre (a.delay + o2))
  ⟨some o1, o3⟩

/-- R189: `0 => 1 => OUT`, `2 => 3 => OUT`. -/
def algorithm4 (a : AlgInput) : AlgResult :=
  let o2 := a.op2 0
  let o1 := a.op1 (a.pre a.o0)
  let o3 := a.op3 (a.pre o2)
  ⟨none, o1 + o3⟩

/-- R190: `0 => 1`, `0 =>[D] 2`, `0 => 3`, `1 + 2 + 3 => OUT`. -/
def algorithm5 (a : AlgInput) : AlgResult :=
  let o2 := a.op2 (a.pre a.delay)
  let o1 := a.op1 (a.pre a.o0)
  let o3 := a.op3 (a.pre a.o0)
  ⟨some a.o0, o1 + o2 + o3⟩

/-- R191: `0 => 1 => OUT`, `2 => OUT`, `3 => OUT`. -/
def algorithm6 (a : AlgInput) : AlgResult :=
  let o2 := a.op2 0
  let o1 := a.op1 (a.pre a.o0)
  let o3 := a.op3 0
  ⟨none, o1 + o2 + o3⟩

/-- R192: all four slots to the output. -/
def algorithm7 (a : AlgInput) : AlgResult :=
  let o2 := a.op2 0
  let o1 := a.op1 0
  let o3 := a.op3 0
  ⟨none, a.o0 + o1 + o2 + o3⟩

/-- R185 to R192: the closed table of the eight evaluators. -/
def algorithm (alg : BitVec 3) (a : AlgInput) : AlgResult :=
  if alg = 0#3 then algorithm0 a
  else if alg = 1#3 then algorithm1 a
  else if alg = 2#3 then algorithm2 a
  else if alg = 3#3 then algorithm3 a
  else if alg = 4#3 then algorithm4 a
  else if alg = 5#3 then algorithm5 a
  else if alg = 6#3 then algorithm6 a
  else algorithm7 a

/-- R180 and R184: what a channel gives its algorithm; slot 0 is evaluated first. -/
def algInput (cfg : Config) (x : Channel) : AlgInput where
  op1 m := (opOut cfg (x.op 1) m).toInt
  op2 m := (opOut cfg (x.op 2) m).toInt
  op3 m := (opOut cfg (x.op 3) m).toInt
  o0 := (slotZeroOut cfg x).toInt
  delay := x.algMem.toInt
  pre := preScale cfg

/-- R185 to R192: the algorithm of a channel, evaluated. -/
def evalAlgorithm (cfg : Config) (x : Channel) : AlgResult := algorithm x.alg (algInput cfg x)

/-- The modulation inputs of slots 1 to 3 in one evaluation of a channel. -/
structure SlotInputs where
  m1 : Int
  m2 : Int
  m3 : Int
  deriving DecidableEq, Repr

/-- The modulation inputs of slots 1 to 3, as R185 to R192 and the summary table of 42_algorithm.md give them for each algorithm.
The evaluators above form the same inputs where they use them. -/
def slotInputs (cfg : Config) (x : Channel) : SlotInputs :=
  let a := algInput cfg x
  let m2 := if x.alg = 0#3 ∨ x.alg = 1#3 ∨ x.alg = 2#3 ∨ x.alg = 5#3 then a.pre a.delay else 0
  { m1 := if x.alg = 1#3 ∨ x.alg = 2#3 ∨ x.alg = 7#3 then 0 else a.pre a.o0
    m2 := m2
    m3 :=
      if x.alg = 0#3 ∨ x.alg = 1#3 ∨ x.alg = 4#3 then a.pre (a.op2 m2)
      else if x.alg = 2#3 then a.pre (a.o0 + a.op2 m2)
      else if x.alg = 3#3 then a.pre (a.delay + a.op2 m2)
      else if x.alg = 5#3 then a.pre a.o0
      else 0 }

/-- R193: `ChannelOut(c)`, the carrier sum wrapped to Int16. -/
def channelOut (cfg : Config) (x : Channel) : S16 := wrap16 (evalAlgorithm cfg x).sum

/-- R182 and R184: the memories an evaluation of the channel leaves. -/
def channelAfterOut (cfg : Config) (x : Channel) : Channel :=
  { x with
    fbMem1 := x.fbMem2
    fbMem2 := slotZeroOut cfg x
    algMem := ((evalAlgorithm cfg x).store.map wrap32).getD x.algMem }

end Sys2Proof.Machine
end

