-- ==== Sys2Proof/Machine/Sample.lean ====
section
/-! DEFINITION. The sample-generation step of 44_sample_step.md, and the meanings of SAMPLE and RESET. -/

namespace Sys2Proof.Machine

/-- R155 and R251: one envelope tick of each of the 24 operators. -/
def tickAll (cfg : Config) (d : Device) : Device :=
  d.mapOps fun c s o => envelopeTick cfg (keycode cfg d c s) o

/-- R251: the envelope clock divider; the tick comes in the SAMPLE in which it wraps from 2 to 0. -/
def clockEnvelopes (cfg : Config) (d : Device) : Device :=
  if d.envDiv = 2 then { tickAll cfg d with envDiv := 0 }
  else { d with envDiv := d.envDiv + 1 }

/-- R252: the channels in the order they are evaluated. -/
def channelOrder : List ChanIx := [0, 1, 2, 3, 4, 5]

/-- R253: the sum, over the channels whose pan bit is set, of their outputs. -/
def panSum (pan : ChanIx → Bool) (y : ChanIx → S16) : Int :=
  channelOrder.foldl (fun acc c => if pan c then acc + (y c).toInt else acc) 0

/-- R252 and R253: the frame the six channel outputs give. -/
def frameOf (cfg : Config) (d : Device) : Frame where
  left := wrap32 (panSum (fun c => d.panL[c]) fun c => channelOut cfg (d.chan c))
  right := wrap32 (panSum (fun c => d.panR[c]) fun c => channelOut cfg (d.chan c))

/-- R253: every channel is evaluated, whether or not its pan bits are set. -/
def evalChannels (cfg : Config) (d : Device) : Device :=
  d.mapChans fun _ x => channelAfterOut cfg x

/-- R254: the phase advance of all 24 operators. -/
def advancePhases (cfg : Config) (d : Device) : Device :=
  d.mapOps fun c s o => advancePhase (phaseInc cfg d c s) o

/-- R250: the device after one SAMPLE: the envelope clock, then the outputs, then the phase advance (R252). -/
def sampleDevice (cfg : Config) (d : Device) : Device :=
  advancePhases cfg (evalChannels cfg (clockEnvelopes cfg d))

/-- R250: the frame of one SAMPLE, from the envelopes after its tick and the phases before its advance (R252). -/
def sampleFrame (cfg : Config) (d : Device) : Frame := frameOf cfg (clockEnvelopes cfg d)

/-- SAMPLE (R250): the device's step, and its frame appended to those emitted. -/
def execSample (s : State) : Host.Outcome State Fault Refusal :=
  .next { s with
    dev := sampleDevice defaultConfig s.dev
    frames := s.frames ++ [sampleFrame defaultConfig s.dev] }

/-- RESET (R330): every field of the device takes its reset value; it emits nothing, and the commands after it still run (log entries 1 and 3). -/
def execReset (s : State) : Host.Outcome State Fault Refusal :=
  .next (s.updateDev fun _ => Device.reset)

end Sys2Proof.Machine
end

