-- ==== Sys2Proof/Machine/Dispatch.lean ====
section
/-! DEFINITION. The meaning of every command, one arm per constructor of Instr. -/

namespace Sys2Proof.Machine

/-- One command run on a state (R210, R250, R330). -/
def exec (i : Instr) (s : State) : Host.Outcome State Fault Refusal :=
  match i with
  | .wrMode mode => Sys2Proof.Machine.execWrMode mode s
  | .wrKey c keys => Sys2Proof.Machine.execWrKey c keys s
  | .wrDtMul c sl det mul => Sys2Proof.Machine.execWrDtMul c sl det mul s
  | .wrTl c sl tl => Sys2Proof.Machine.execWrTl c sl tl s
  | .wrKsAr c sl ks ar => Sys2Proof.Machine.execWrKsAr c sl ks ar s
  | .wrDr c sl dr => Sys2Proof.Machine.execWrDr c sl dr s
  | .wrSr c sl sr => Sys2Proof.Machine.execWrSr c sl sr s
  | .wrSlRr c slot sl rr => Sys2Proof.Machine.execWrSlRr c slot sl rr s
  | .wrFnumHi block fnumHi => Sys2Proof.Machine.execWrFnumHi block fnumHi s
  | .wrFnumLo c fnumLo => Sys2Proof.Machine.execWrFnumLo c fnumLo s
  | .wrCh3FnumLo k fnumLo => Sys2Proof.Machine.execWrCh3FnumLo k fnumLo s
  | .wrAlgFb c alg fb => Sys2Proof.Machine.execWrAlgFb c alg fb s
  | .wrPan c left right => Sys2Proof.Machine.execWrPan c left right s
  | .sample => Sys2Proof.Machine.execSample s
  | .reset => Sys2Proof.Machine.execReset s
  | .ignore _ _ _ => Sys2Proof.Machine.execIgnore s

end Sys2Proof.Machine
end

