-- ==== Sys2Proof/Machine/Step.lean ====
section
/-! DEFINITION. One step of the machine: the head command of the host's sequence, decoded and run (R80). -/

namespace Sys2Proof.Machine

/-- R80: the step takes the head command of the sequence. Kind 0b11 is refused (R94, R301). With no command delivered nothing changes (log entry 2). -/
def step (s : State) : Host.Outcome State Fault Refusal :=
  match s.commands with
  | [] => .next s
  | w :: rest =>
    match decode w with
    | .ok i => exec i { s with commands := rest }
    | .error .reservedKind => .refused .reservedKind

/-- The state with the low 19 bits of a number delivered as its next command, ahead of those already waiting (log entry 4). -/
def State.withFetchWord (s : State) (_nbits w : Nat) : State :=
  { s with commands := BitVec.ofNat 19 w :: s.commands }

end Sys2Proof.Machine
end

