-- ==== Sys2Proof/Machine/HostInterface.lean ====
section
/-! DEFINITION. What the host does at the block's boundary: the calls of R81 as command words, the pseudo-commands of R97, and the two buffer forms of R255 and R256. -/

namespace Sys2Proof.Machine

/-- R83: the command word of the host call `write(addr, data)`, with both operands masked. -/
def hostWrite (addr data : Nat) : CommandWord :=
  BitVec.ofNat 19 (addr % 2 ^ 9 * 2 ^ 8 + data % 2 ^ 8)

/-- The command word of `sample` (R82, R96). -/
def sampleWord : CommandWord := 0x20000#19

/-- The command word of `reset` (R82, R96). -/
def resetWord : CommandWord := 0x40000#19

/-- R97: `gen N` expands to N `sample` commands. -/
def gen (n : Nat) : List CommandWord := List.replicate n sampleWord

/-- R97: `setfreq C, BLK, FN`, a high write then a low write. -/
def setFreq (c : ChanIx) (block : BitVec 3) (fnum : BitVec 11) : List CommandWord :=
  let base := 0x100 * (c.val / 3) + c.val % 3
  [ hostWrite (base + 0xA4) (block.toNat * 2 ^ 3 + fnum.toNat / 2 ^ 8),
    hostWrite (base + 0xA0) (fnum.toNat % 2 ^ 8) ]

/-- R97: `setfreq3 K, BLK, FN`, a high write then a low write. -/
def setFreq3 (k : OverrideIx) (block : BitVec 3) (fnum : BitVec 11) : List CommandWord :=
  [ hostWrite (0xAC + k.val) (block.toNat * 2 ^ 3 + fnum.toNat / 2 ^ 8),
    hostWrite (0xA8 + k.val) (fnum.toNat % 2 ^ 8) ]

/-- R97: `key C, MASK`. -/
def key (c : ChanIx) (mask : BitVec 4) : List CommandWord :=
  [hostWrite 0x28 (mask.toNat * 2 ^ 4 + c.val / 3 * 2 ^ 2 + c.val % 3)]

/-- R97: `opreg BASE, C, S, V`. -/
def opReg (base : Nat) (c : ChanIx) (s : Slot) (v : Byte) : List CommandWord :=
  [hostWrite (0x100 * (c.val / 3) + base + c.val % 3 + 4 * (s.val / 2) + 8 * (s.val % 2)) v.toNat]

/-- The host delivers commands after those already waiting (R70). -/
def State.issue (s : State) (ws : List CommandWord) : State :=
  { s with commands := s.commands ++ ws }

/-- The device after N SAMPLE commands in a row. -/
def sampleTimes (cfg : Config) : Nat → Device → Device
  | 0, d => d
  | n + 1, d => sampleTimes cfg n (sampleDevice cfg d)

/-- The frames of N SAMPLE commands in a row, in order. -/
def sampleFrames (cfg : Config) : Nat → Device → List Frame
  | 0, _ => []
  | n + 1, d => sampleFrame cfg d :: sampleFrames cfg n (sampleDevice cfg d)

/-- The left and right buffers of `generate_stereo` (R255, log entry 11). -/
structure StereoBuffers where
  left : List S32
  right : List S32
  deriving DecidableEq, Repr

/-- R255: `generate_stereo` appends each frame's left and right value to the two buffers. -/
def generateStereo (cfg : Config) (b : StereoBuffers) (n : Nat) (d : Device) : StereoBuffers where
  left := b.left ++ (sampleFrames cfg n d).map (·.left)
  right := b.right ++ (sampleFrames cfg n d).map (·.right)

/-- The two values a frame appends to an interleaved buffer, left then right (R256). -/
def interleavedPair (f : Frame) : List S32 := [f.left, f.right]

/-- R256: `generate_interleaved` appends L0, R0, L1, R1 and so on to one buffer. -/
def generateInterleaved (cfg : Config) (b : List S32) (n : Nat) (d : Device) : List S32 :=
  b ++ (sampleFrames cfg n d).flatMap interleavedPair

end Sys2Proof.Machine
end

