-- ==== Sys2Proof/Safety.lean ====
section
/-! DEFINITION. The terms claims about the block are stated in: its invariant, silence, what a command keys, and what a command leaves unchanged. -/

namespace Sys2Proof.Machine

/-- The envelope states of a held note (R30). -/
def EgState.held : EgState → Bool
  | .attack => true
  | .decay => true
  | .sustain => true
  | .release => false
  | .off => false

/-- R30: `keyon` is true exactly in ATTACK, DECAY and SUSTAIN; and an OFF operator is fully attenuated, because only R152 enters OFF. -/
def Operator.Inv (o : Operator) : Prop :=
  o.keyon = o.egState.held ∧ (o.egState = .off → o.env = 1023#10)

/-- An operator output or a memory of one lies within the bound of R123. -/
def withinOutput (v : Int) : Prop := -8168 ≤ v ∧ v ≤ 8168

/-- A delay cell lies within the bound of R194, the sum of two operator outputs. -/
def withinDelay (v : Int) : Prop := -16336 ≤ v ∧ v ≤ 16336

/-- A modulation input of slot 3 in algorithm 3 lies within half the sum of a delay cell and an operator output (R188, log entry 13). -/
def withinMixed (v : Int) : Prop := -12252 ≤ v ∧ v ≤ 12252

/-- A frame value lies within six channel outputs of at most 4 * 8168 each (R194, R253). -/
def withinFrame (v : Int) : Prop := -196032 ≤ v ∧ v ≤ 196032

/-- The memories of a channel, under the default tables (R123, R194). R194's bound on the modulation inputs does not follow for algorithm 3 (log entry 13). -/
def Channel.Inv (x : Channel) : Prop :=
  withinOutput x.fbMem1.toInt ∧ withinOutput x.fbMem2.toInt ∧ withinDelay x.algMem.toInt

/-- The two values of a frame, under the default tables. -/
def Frame.Bounded (f : Frame) : Prop := withinFrame f.left.toInt ∧ withinFrame f.right.toInt

/-- The invariant of the device: every operator and every channel. -/
def Device.Inv (d : Device) : Prop := (∀ c s, (d.op c s).Inv) ∧ ∀ c, (d.chan c).Inv

/-- The invariant of the machine: its device, and every frame it has emitted. -/
def State.Inv (s : State) : Prop := s.dev.Inv ∧ ∀ f ∈ s.frames, f.Bounded

/-- A silent operator: no note is held and it is fully attenuated, as RESET leaves it (R332). -/
def Operator.Silent (o : Operator) : Prop :=
  o.keyon = false ∧ (o.egState = .release ∨ o.egState = .off) ∧ o.env = 1023#10

/-- A device all of whose operators are silent (R332). -/
def Device.Silent (d : Device) : Prop := ∀ c s, (d.op c s).Silent

/-- The frame of a silent block (R332). -/
def Frame.zero : Frame := ⟨0#32, 0#32⟩

/-- What a command tells operator `op[c][s]` about its key: its key bit where it is a WR_KEY of channel `c`, nothing otherwise (R213). -/
def keyBitOf (i : Instr) (c : ChanIx) (s : Slot) : Option Bool :=
  match i with
  | .wrKey c' keys => if c' = c then some (keys.getLsbD s.val) else none
  | .wrMode _ => none
  | .wrDtMul _ _ _ _ => none
  | .wrTl _ _ _ => none
  | .wrKsAr _ _ _ _ => none
  | .wrDr _ _ _ => none
  | .wrSr _ _ _ => none
  | .wrSlRr _ _ _ _ => none
  | .wrFnumHi _ _ => none
  | .wrFnumLo _ _ => none
  | .wrCh3FnumLo _ _ => none
  | .wrAlgFb _ _ _ => none
  | .wrPan _ _ _ => none
  | .sample => none
  | .reset => none
  | .ignore _ _ _ => none

/-- The bits of a data byte that the layout of its register names, as a mask (R88 to R92). -/
def namedBits (r : Byte) : Byte :=
  if r = 0x27#8 then 0xC0#8
  else if r = 0x28#8 then 0xF7#8
  else if r ≤ 0x4F#8 then 0x7F#8
  else if r ≤ 0x5F#8 then 0xDF#8
  else if r ≤ 0x7F#8 then 0x1F#8
  else if r ≤ 0x8F#8 then 0xFF#8
  else if r ≤ 0xAF#8 then if r.extractLsb' 2 1 = 1#1 then 0x3F#8 else 0xFF#8
  else if r ≤ 0xB3#8 then 0x3F#8
  else 0xC0#8

/-- The device fields of R36, all but the channels, are the same. -/
def Device.sameGlobals (d e : Device) : Prop :=
  e.latch = d.latch ∧ e.ch3Mode = d.ch3Mode ∧ e.ch3Fnum = d.ch3Fnum ∧ e.ch3Block = d.ch3Block ∧
    e.envDiv = d.envDiv ∧ e.panL = d.panL ∧ e.panR = d.panR

/-- The channel memories of R33 and R34 are the same. -/
def Channel.sameMemories (x y : Channel) : Prop :=
  y.fbMem1 = x.fbMem1 ∧ y.fbMem2 = x.fbMem2 ∧ y.algMem = x.algMem

/-- The channel parameters of R35 are the same. -/
def Channel.sameParameters (x y : Channel) : Prop :=
  y.alg = x.alg ∧ y.fb = x.fb ∧ y.block = x.block ∧ y.fnum = x.fnum

/-- The tone parameters of R28 are the same. -/
def Operator.sameTone (o p : Operator) : Prop :=
  p.tl = o.tl ∧ p.sl = o.sl ∧ p.ar = o.ar ∧ p.dr = o.dr ∧ p.sr = o.sr ∧ p.rr = o.rr ∧
    p.mul = o.mul ∧ p.det = o.det ∧ p.ks = o.ks

/-- The running state of an operator, R23 to R27, is the same. -/
def Operator.sameRunning (o p : Operator) : Prop :=
  p.phase = o.phase ∧ p.env = o.env ∧ p.egState = o.egState ∧ p.egClock = o.egClock ∧ p.keyon = o.keyon

/-- Both ports are the same: no command was taken and no frame emitted. -/
def State.samePorts (s t : State) : Prop := t.commands = s.commands ∧ t.frames = s.frames

/-- Everything outside operator `op[c][sl]` is the same. -/
def onlyOperator (c : ChanIx) (sl : Slot) (s t : State) : Prop :=
  s.samePorts t ∧ s.dev.sameGlobals t.dev ∧
    (∀ c', (s.dev.chan c').sameMemories (t.dev.chan c') ∧ (s.dev.chan c').sameParameters (t.dev.chan c')) ∧
    ∀ c' sl', (c' ≠ c ∨ sl' ≠ sl) → t.dev.op c' sl' = s.dev.op c' sl'

/-- Everything outside the four operators of channel `c` is the same: its memories and parameters, the other channels, the device fields and the ports. -/
def onlyChannelOperators (c : ChanIx) (s t : State) : Prop :=
  s.samePorts t ∧ s.dev.sameGlobals t.dev ∧ (∀ c', c' ≠ c → t.dev.chan c' = s.dev.chan c') ∧
    (s.dev.chan c).sameMemories (t.dev.chan c) ∧ (s.dev.chan c).sameParameters (t.dev.chan c)

/-- Everything outside the parameters of channel `c` (R35) is the same: its operators and memories, the other channels, the device fields and the ports. -/
def onlyChannelParameters (c : ChanIx) (s t : State) : Prop :=
  s.samePorts t ∧ s.dev.sameGlobals t.dev ∧ (∀ c', c' ≠ c → t.dev.chan c' = s.dev.chan c') ∧
    (s.dev.chan c).sameMemories (t.dev.chan c) ∧ ∀ sl, t.dev.op c sl = s.dev.op c sl

/-- Every channel, and so every operator, and both ports are the same. -/
def onlyGlobals (s t : State) : Prop :=
  s.samePorts t ∧ ∀ c, t.dev.chan c = s.dev.chan c

end Sys2Proof.Machine
end

