-- ==== Sys2Proof/Certificates/Slice0/Obligations.lean ====
section
/-! DEFINITION. The statements about the block that the provers settle. Rules R<n> are those of spec/; decisions D<n> those of 92_eei_decisions.md. -/

section
open Sys2Proof Sys2Proof.Machine

/-! ## Encoding -/

/-- Decode and encode agree on every command, every operand at every value (30_encoding.md; the word format is the spec's decision D1, the words the encoder picks are log entry 9). -/
def Obligations.DecodeEncodeRoundTrip : Prop :=
  ∀ i : Instr, i.wellFormed = true → decode (encode i) = .ok i

/-- Whatever the decoder reads is well-formed (30_encoding.md; D1, D24, D26). -/
def Obligations.DecodedCommandsAreWellFormed : Prop :=
  ∀ (w : CommandWord) (i : Instr), decode w = .ok i → i.wellFormed = true

/-- The decoder and the opcode table agree on every word: the row that covers a word is the command it decodes to, and a word no row covers is refused;
and the rows of priority 0 never overlap (INDEX.md). -/
def Obligations.DecoderAgreesWithOpcodeTable : Prop :=
  (∀ w : CommandWord,
    match decode w with
    | .ok i => tableMnemonic w = some i.mnemonic
    | .error _ => tableMnemonic w = none) ∧
  ∀ (w : CommandWord) (a b : OpcodeRow), a ∈ priorityRows → b ∈ priorityRows →
    a.covers w = true → b.covers w = true → a = b

/-- Kind 0b11 is the one reserved encoding: the decoder refuses exactly its words, and the machine has no step for them (the spec's decision D1). -/
def Obligations.OnlyReservedKindIsRefused : Prop :=
  (∀ w : CommandWord, decode w = .error .reservedKind ↔ w.extractLsb' 17 2 = 3#2) ∧
  ∀ (s : State) (w : CommandWord) (rest : List CommandWord),
    s.commands = w :: rest → w.extractLsb' 17 2 = 3#2 → step s = .refused .reservedKind

/-- A WRITE decodes to IGNORE exactly for the addresses and key bytes the encoding lists as ignored (the spec's decisions D24, D26). -/
def Obligations.IgnoredWritesAreThoseListed : Prop :=
  ∀ (bank : BitVec 1) (r v : Byte),
    (ignoredWrite r v = true → decodeWrite bank r v = .ignore bank r v) ∧
    (ignoredWrite r v = false → ∀ b r' v', decodeWrite bank r v ≠ .ignore b r' v')

/-- Two data bytes for one register decode alike exactly when they agree on the bits its layout names: no named bit is dropped and no other bit is kept (layouts: D20 to D23). -/
def Obligations.DataBytesCountOnlyByNamedBits : Prop :=
  ∀ (bank : BitVec 1) (r v v' : Byte), ignoredWrite r v = false → ignoredWrite r v' = false →
    (decodeWrite bank r v = decodeWrite bank r v' ↔ v &&& namedBits r = v' &&& namedBits r)

/-- The bank bit counts for channel-scoped and operator-scoped registers only: a device-scoped one decodes alike in both banks (D25). -/
def Obligations.BankIsIgnoredForDeviceRegisters : Prop :=
  ∀ (bank bank' : BitVec 1) (r v : Byte), ignoredWrite r v = false →
    (decodeWrite bank r v = decodeWrite bank' r v ↔
      bank = bank' ∨ r = 0x27#8 ∨ r = 0x28#8 ∨ (0xA4#8 ≤ r ∧ r ≤ 0xAF#8))

/-- R83: a host write masks its address and its data, never fails, and is ignored where its address has no defined meaning. -/
def Obligations.HostWritesAreMaskedAndNeverFail : Prop :=
  ∀ addr data : Nat,
    let bank := BitVec.ofNat 1 (addr % 512 / 256)
    let r := BitVec.ofNat 8 (addr % 256)
    let v := BitVec.ofNat 8 (data % 256)
    hostWrite addr data = hostWrite (addr % 512) (data % 256) ∧
    decode (hostWrite addr data) = .ok (decodeWrite bank r v) ∧
    (∀ s : State, ∃ t, exec (decodeWrite bank r v) s = .next t) ∧
    (ignoredWrite r v = true → ∀ s : State, exec (decodeWrite bank r v) s = .next s)

/-- Words written out from the encoding decode to their commands (95_test_vectors.md V-ENC and programs P1 to P5). -/
def Obligations.WrittenOutWordsDecode : Prop :=
  decode 0x02740#19 = .ok (.wrMode 1#2) ∧
  decode 0x12836#19 = .ok (.wrKey 5 3#4) ∧
  decode 0x13475#19 = .ok (.wrDtMul 3 2 7#3 5#4) ∧
  decode 0x0A422#19 = .ok (.wrFnumHi 4#3 2#3) ∧
  decode 0x1AB7F#19 = .ok (.wrCh3FnumLo 0 0x7F#8) ∧
  decode 0x0B12C#19 = .ok (.wrAlgFb 1 4#3 5#3) ∧
  decode 0x3FFFF#19 = .ok .sample ∧
  decode 0x5FFFF#19 = .ok .reset

/-- The pseudo-commands expand to words that decode to the commands they stand for (D43, the spec's own notation). -/
def Obligations.PseudoCommandsExpandToTheirCommands : Prop :=
  (∀ (c : ChanIx) (block : BitVec 3) (fnum : BitVec 11),
    (setFreq c block fnum).map decode =
      [.ok (.wrFnumHi block (fnum.extractLsb' 8 3)), .ok (.wrFnumLo c (fnum.extractLsb' 0 8))]) ∧
  (∀ (k : OverrideIx) (block : BitVec 3) (fnum : BitVec 11),
    (setFreq3 k block fnum).map decode =
      [.ok (.wrFnumHi block (fnum.extractLsb' 8 3)), .ok (.wrCh3FnumLo k (fnum.extractLsb' 0 8))]) ∧
  (∀ (c : ChanIx) (mask : BitVec 4), (key c mask).map decode = [.ok (.wrKey c mask)]) ∧
  (∀ (digit : BitVec 4) (c : ChanIx) (s : Slot) (v : Byte), 3#4 ≤ digit → digit ≤ 8#4 →
    (opReg (16 * digit.toNat) c s v).map decode = [.ok (decodeOperatorWrite c s digit v)])

/-! ## The step -/

/-- A step takes the head command of the host's sequence and runs what it decodes to (30_encoding.md section 1; D1, D2, log entry 1). -/
def Obligations.StepRunsTheDecodedCommand : Prop :=
  ∀ (s : State) (w : CommandWord) (rest : List CommandWord) (i : Instr),
    s.commands = w :: rest → decode w = .ok i → step s = exec i { s with commands := rest }

/-- R300: every command is a total function of the state, every register value is masked rather than rejected, a structurally invalid address is a no-op, and no step raises an exception. -/
def Obligations.NoCommandRaisesAnException : Prop :=
  (∀ (i : Instr) (s : State), ∃ t, exec i s = .next t) ∧
  (∀ addr data : Nat, ∃ i, decode (hostWrite addr data) = .ok i) ∧
  (∀ (bank : BitVec 1) (r v : Byte) (s : State), ignoredWrite r v = true →
    exec (decodeWrite bank r v) s = .next s) ∧
  ∀ (s : State) (f : Fault), step s ≠ .fault f

/-- Only SAMPLE emits a frame, exactly one, and no command takes another or drops a frame already emitted (44_sample_step.md; log entries 1 and 3). -/
def Obligations.OnlySampleEmitsAFrame : Prop :=
  ∀ (i : Instr) (s t : State), exec i s = .next t →
    t.commands = s.commands ∧
    t.frames = if i = .sample then s.frames ++ [sampleFrame defaultConfig s.dev] else s.frames

/-- R257: SAMPLE is total and deterministic, and reads only the block's state: neither the commands waiting nor the frames emitted. -/
def Obligations.SampleReadsOnlyTheDevice : Prop :=
  ∀ s s' : State, s'.dev = s.dev → ∃ t t' f,
    exec .sample s = .next t ∧ exec .sample s' = .next t' ∧ t'.dev = t.dev ∧
    t.frames = s.frames ++ [f] ∧ t'.frames = s'.frames ++ [f]

/-! ## Register writes: result and frame -/

/-- WR_MODE completes: it sets the channel-3 mode by its two bits (codes: D23) and changes nothing else. -/
def Obligations.ModeWriteSetsTheMode : Prop :=
  ∀ (mode : BitVec 2) (s : State), ∃ t, exec (.wrMode mode) s = .next t ∧
    t.dev.ch3Mode = (match mode.toNat with | 0 => .normal | 1 => .special | _ => .csm) ∧
    onlyGlobals s t ∧ t.dev.latch = s.dev.latch ∧ t.dev.ch3Fnum = s.dev.ch3Fnum ∧
    t.dev.ch3Block = s.dev.ch3Block ∧ t.dev.envDiv = s.dev.envDiv ∧
    t.dev.panL = s.dev.panL ∧ t.dev.panR = s.dev.panR

/-- WR_KEY completes: each slot of its channel is keyed on or off by its bit, a slot already so is untouched, and nothing outside the channel's operators changes (bit order: D22). -/
def Obligations.KeyWriteKeysEachSlot : Prop :=
  ∀ (c : ChanIx) (keys : BitVec 4) (s : State), ∃ t, exec (.wrKey c keys) s = .next t ∧
    (∀ sl : Slot,
      let o := s.dev.op c sl
      t.dev.op c sl =
        if keys.getLsbD sl.val = true then
          if o.keyon = true then o
          else { o with keyon := true, egState := .attack, phase := 0#20, egClock := 0#32 }
        else
          if o.keyon = false ∨ o.egState = .off then o
          else { o with keyon := false, egState := .release }) ∧
    onlyChannelOperators c s t

/-- The six operator-register writes complete: each stores its fields in the addressed operator and changes nothing else (field positions: D20). -/
def Obligations.OperatorWritesStoreTheirFields : Prop :=
  ∀ (c : ChanIx) (sl : Slot) (s : State),
    (∀ det mul, ∃ t, exec (.wrDtMul c sl det mul) s = .next t ∧ onlyOperator c sl s t ∧
      t.dev.op c sl = { s.dev.op c sl with det := det, mul := mul }) ∧
    (∀ tl, ∃ t, exec (.wrTl c sl tl) s = .next t ∧ onlyOperator c sl s t ∧
      t.dev.op c sl = { s.dev.op c sl with tl := tl }) ∧
    (∀ ks ar, ∃ t, exec (.wrKsAr c sl ks ar) s = .next t ∧ onlyOperator c sl s t ∧
      t.dev.op c sl = { s.dev.op c sl with ks := ks, ar := ar }) ∧
    (∀ dr, ∃ t, exec (.wrDr c sl dr) s = .next t ∧ onlyOperator c sl s t ∧
      t.dev.op c sl = { s.dev.op c sl with dr := dr }) ∧
    (∀ sr, ∃ t, exec (.wrSr c sl sr) s = .next t ∧ onlyOperator c sl s t ∧
      t.dev.op c sl = { s.dev.op c sl with sr := sr }) ∧
    (∀ lv rr, ∃ t, exec (.wrSlRr c sl lv rr) s = .next t ∧ onlyOperator c sl s t ∧
      t.dev.op c sl = { s.dev.op c sl with sl := lv, rr := rr })

/-- The three frequency writes complete: the high write stores the latch alone, the low writes apply the latched pair to a channel or to an override and leave the latch (latch layout and sharing: D21). -/
def Obligations.FrequencyWritesUseTheLatch : Prop :=
  ∀ s : State,
    (∀ block fnumHi, ∃ t, exec (.wrFnumHi block fnumHi) s = .next t ∧ onlyGlobals s t ∧
      t.dev = { s.dev with latch := block ++ fnumHi }) ∧
    (∀ c fnumLo, ∃ t, exec (.wrFnumLo c fnumLo) s = .next t ∧ s.samePorts t ∧
      s.dev.sameGlobals t.dev ∧ (∀ c', c' ≠ c → t.dev.chan c' = s.dev.chan c') ∧
      t.dev.chan c = { s.dev.chan c with
        fnum := s.dev.latch.extractLsb' 0 3 ++ fnumLo, block := s.dev.latch.extractLsb' 3 3 }) ∧
    (∀ (k : OverrideIx) fnumLo, ∃ t, exec (.wrCh3FnumLo k fnumLo) s = .next t ∧ onlyGlobals s t ∧
      (∀ k' : OverrideIx, t.dev.ch3Fnum[k'] =
        if k' = k then s.dev.latch.extractLsb' 0 3 ++ fnumLo else s.dev.ch3Fnum[k']) ∧
      (∀ k' : OverrideIx, t.dev.ch3Block[k'] =
        if k' = k then s.dev.latch.extractLsb' 3 3 else s.dev.ch3Block[k']) ∧
      t.dev.latch = s.dev.latch ∧ t.dev.ch3Mode = s.dev.ch3Mode ∧ t.dev.envDiv = s.dev.envDiv ∧
      t.dev.panL = s.dev.panL ∧ t.dev.panR = s.dev.panR)

/-- R223: WR_ALG_FB, from its word to its effect: registers 0xB0-0xB2 of either bank, `alg = v[2:0]`, `fb = v[5:3]`, bits 7:6 ignored, 0xB3 ignored,
the memories not cleared, nothing else changed, used by the channel's next evaluation; and the rule's worked example. -/
def Obligations.AlgorithmWriteSetsAlgAndFeedback : Prop :=
  (∀ (bank : BitVec 1) (cs : BitVec 2) (v : Byte) (s : State), cs ≠ 3#2 →
    ∃ c t, c.val = cs.toNat + 3 * bank.toNat ∧
      decode (writeWord bank (0x2C#6 ++ cs) v) = .ok (.wrAlgFb c (v.extractLsb' 0 3) (v.extractLsb' 3 3)) ∧
      exec (.wrAlgFb c (v.extractLsb' 0 3) (v.extractLsb' 3 3)) s = .next t ∧
      (t.dev.chan c).alg = v.extractLsb' 0 3 ∧ (t.dev.chan c).fb = v.extractLsb' 3 3 ∧
      (t.dev.chan c).block = (s.dev.chan c).block ∧ (t.dev.chan c).fnum = (s.dev.chan c).fnum ∧
      onlyChannelParameters c s t ∧
      channelOut defaultConfig (t.dev.chan c) =
        channelOut defaultConfig { s.dev.chan c with alg := v.extractLsb' 0 3, fb := v.extractLsb' 3 3 }) ∧
  (∀ (bank : BitVec 1) (v : Byte) (s : State),
    decode (writeWord bank 0xB3#8 v) = .ok (.ignore bank 0xB3#8 v) ∧
    exec (.ignore bank 0xB3#8 v) s = .next s) ∧
  decode (hostWrite 0x0B0 0x3F) = .ok (.wrAlgFb 0 7#3 7#3)

/-- WR_PAN completes: it sets the two pan bits of one channel and changes nothing else (43_register_writes.md, 30_encoding.md). -/
def Obligations.PanWriteSetsTwoBits : Prop :=
  ∀ (c : ChanIx) (left right : Bool) (s : State), ∃ t, exec (.wrPan c left right) s = .next t ∧
    (∀ c' : ChanIx, t.dev.panL[c'] = if c' = c then left else s.dev.panL[c']) ∧
    (∀ c' : ChanIx, t.dev.panR[c'] = if c' = c then right else s.dev.panR[c']) ∧
    onlyGlobals s t ∧ t.dev.latch = s.dev.latch ∧ t.dev.ch3Mode = s.dev.ch3Mode ∧
    t.dev.ch3Fnum = s.dev.ch3Fnum ∧ t.dev.ch3Block = s.dev.ch3Block ∧ t.dev.envDiv = s.dev.envDiv

/-- IGNORE completes and changes no state (which writes are ignored: D24, D26). -/
def Obligations.IgnoreChangesNothing : Prop :=
  ∀ (bank : BitVec 1) (r v : Byte) (s : State), exec (.ignore bank r v) s = .next s

/-- RESET completes: every field of every operator, channel and the device takes its reset value, and the ports are as before
(the values the source does not name are the spec's decision D27; the ports are log entries 1 and 3). -/
def Obligations.ResetRestoresEveryField : Prop :=
  ∀ s : State, ∃ t, exec .reset s = .next t ∧ s.samePorts t ∧
    (∀ c sl, t.dev.op c sl =
      { phase := 0, env := 1023, egState := .release, egClock := 0, keyon := false, tl := 0, sl := 0,
        ar := 0, dr := 0, sr := 0, rr := 0, mul := 0, det := 0, ks := 0 }) ∧
    (∀ c, (t.dev.chan c).fbMem1 = 0 ∧ (t.dev.chan c).fbMem2 = 0 ∧ (t.dev.chan c).algMem = 0 ∧
      (t.dev.chan c).alg = 0 ∧ (t.dev.chan c).fb = 0 ∧ (t.dev.chan c).block = 0 ∧
      (t.dev.chan c).fnum = 0 ∧ t.dev.panL[c] = true ∧ t.dev.panR[c] = true) ∧
    (∀ k : OverrideIx, t.dev.ch3Fnum[k] = 0 ∧ t.dev.ch3Block[k] = 0) ∧
    t.dev.latch = 0 ∧ t.dev.ch3Mode = .normal ∧ t.dev.envDiv = 0

/-- SAMPLE completes: where the divider wraps every operator takes one envelope tick; then every channel is evaluated on those envelopes
and the phases before the advance; then every phase advances; no parameter changes (order and divider: D12, D28). -/
def Obligations.SampleTicksEvaluatesAndAdvances : Prop :=
  ∀ s : State, ∃ (t : State) (mid : Device), exec .sample s = .next t ∧
    (∀ c sl, mid.op c sl =
      if s.dev.envDiv = 2 then envelopeTick defaultConfig (keycode defaultConfig s.dev c sl) (s.dev.op c sl)
      else s.dev.op c sl) ∧
    (∀ c, (s.dev.chan c).sameMemories (mid.chan c) ∧ (s.dev.chan c).sameParameters (mid.chan c)) ∧
    (∀ c sl, t.dev.op c sl = { mid.op c sl with
      phase := (mid.op c sl).phase + (phaseInc defaultConfig s.dev c sl).setWidth 20 }) ∧
    (∀ c, (channelAfterOut defaultConfig (mid.chan c)).sameMemories (t.dev.chan c) ∧
      (s.dev.chan c).sameParameters (t.dev.chan c)) ∧
    t.frames = s.frames ++ [frameOf defaultConfig { mid with panL := s.dev.panL, panR := s.dev.panR }] ∧
    t.commands = s.commands ∧ t.dev.latch = s.dev.latch ∧ t.dev.ch3Mode = s.dev.ch3Mode ∧
    t.dev.ch3Fnum = s.dev.ch3Fnum ∧ t.dev.ch3Block = s.dev.ch3Block ∧ t.dev.panL = s.dev.panL ∧
    t.dev.panR = s.dev.panR ∧ t.dev.envDiv.val = (s.dev.envDiv.val + 1) % 3

/-- R334: a high write changes no effective frequency; the low write after it applies the full pair to the addressed channel;
a low write leaves the latch, so that a low write alone, of any channel, reuses the pair the latch holds. -/
def Obligations.HighThenLowAppliesThePair : Prop :=
  (∀ block fnumHi (s t : State), exec (.wrFnumHi block fnumHi) s = .next t →
    ∀ c sl, effFreq t.dev c sl = effFreq s.dev c sl) ∧
  (∀ block fnumHi c fnumLo (s t u : State), exec (.wrFnumHi block fnumHi) s = .next t →
    exec (.wrFnumLo c fnumLo) t = .next u →
    (u.dev.chan c).fnum = fnumHi ++ fnumLo ∧ (u.dev.chan c).block = block) ∧
  (∀ c fnumLo (s t : State), exec (.wrFnumLo c fnumLo) s = .next t → t.dev.latch = s.dev.latch) ∧
  (∀ block fnumHi c c' fnumLo fnumLo' (s t u v : State), exec (.wrFnumHi block fnumHi) s = .next t →
    exec (.wrFnumLo c fnumLo) t = .next u → exec (.wrFnumLo c' fnumLo') u = .next v →
    (v.dev.chan c').fnum = fnumHi ++ fnumLo' ∧ (v.dev.chan c').block = block)

/-! ## Who writes what: rules over all commands -/

/-- R24: `env` changes only by the envelope tick and by RESET; one unit of it is four units of the log-sine scale, and at 1023 it is silent. -/
def Obligations.EnvChangesOnlyByTickAndReset : Prop :=
  (∀ (i : Instr) (s t : State) (c : ChanIx) (sl : Slot), exec i s = .next t → i ≠ .reset →
    (t.dev.op c sl).env = (s.dev.op c sl).env ∨
      (i = .sample ∧ (t.dev.op c sl).env =
        (envelopeTick defaultConfig (keycode defaultConfig s.dev c sl) (s.dev.op c sl)).env)) ∧
  (∀ (cfg : Config) (q : BitVec 8) (env : BitVec 10) (tl : BitVec 7),
    attenuation cfg q env tl = attenuation cfg q 0#10 tl + 4 * env.toNat) ∧
  (∀ (cfg : Config) (o : Operator) (m : Int), o.env = 1023#10 → opOut cfg o m = 0#16)

/-- R25 and R153: OFF is left only by key-on or RESET, and in OFF a tick changes only the clock, so the envelope does not change. -/
def Obligations.OffIsLeftOnlyByKeyOnOrReset : Prop :=
  (∀ (i : Instr) (s t : State) (c : ChanIx) (sl : Slot), exec i s = .next t →
    (s.dev.op c sl).egState = .off → i ≠ .reset → keyBitOf i c sl ≠ some true →
    (t.dev.op c sl).egState = .off ∧ (t.dev.op c sl).env = (s.dev.op c sl).env) ∧
  (∀ (cfg : Config) (kc : BitVec 5) (o : Operator), o.egState = .off →
    envelopeTick cfg kc o = { o with egClock := o.egClock + 1#32 }) ∧
  (∀ (cfg : Config) (o : Operator) (m : Int), o.Inv → o.egState = .off → opOut cfg o m = 0#16)

/-- R27: key-on sets `keyon` true, key-off sets it false, and nothing else writes it except RESET. -/
def Obligations.KeyonIsWrittenOnlyByKeysAndReset : Prop :=
  ∀ (i : Instr) (s t : State) (c : ChanIx) (sl : Slot), (s.dev.op c sl).Inv → exec i s = .next t →
    (t.dev.op c sl).keyon =
      if i = .reset then false else (keyBitOf i c sl).getD (s.dev.op c sl).keyon

/-- Each tone parameter is written only by its register-write command and by RESET (10_state.md section 2; field positions: D20). -/
def Obligations.ToneParametersAreWrittenOnlyByTheirCommands : Prop :=
  ∀ (i : Instr) (s t : State) (c : ChanIx) (sl : Slot), exec i s = .next t → i ≠ .reset →
    let o := s.dev.op c sl
    let p := t.dev.op c sl
    (p.tl = o.tl ∨ i = .wrTl c sl p.tl) ∧
    ((p.sl = o.sl ∧ p.rr = o.rr) ∨ i = .wrSlRr c sl p.sl p.rr) ∧
    ((p.ks = o.ks ∧ p.ar = o.ar) ∨ i = .wrKsAr c sl p.ks p.ar) ∧
    (p.dr = o.dr ∨ i = .wrDr c sl p.dr) ∧
    (p.sr = o.sr ∨ i = .wrSr c sl p.sr) ∧
    ((p.det = o.det ∧ p.mul = o.mul) ∨ i = .wrDtMul c sl p.det p.mul)

/-- R33: the feedback memories are the two most recent outputs of slot 0; they are written only by the channel evaluation and by RESET. -/
def Obligations.FeedbackMemoriesHoldTheLastTwoOutputs : Prop :=
  ∀ (i : Instr) (s t : State) (c : ChanIx), exec i s = .next t → i ≠ .reset →
    let x := s.dev.chan c
    let y := t.dev.chan c
    (i ≠ .sample → y.fbMem1 = x.fbMem1 ∧ y.fbMem2 = x.fbMem2) ∧
    (i = .sample → y.fbMem1 = x.fbMem2 ∧
      y.fbMem2 = opOut defaultConfig ((clockEnvelopes defaultConfig s.dev).op c 0) (feedbackInput x))

/-- `env_div` gates the envelope update to once every 3 samples: it counts SAMPLE commands modulo 3, an operator's envelope clock moves only
in the SAMPLE in which it wraps, and only SAMPLE and RESET write it (10_state.md section 4; where in the three samples the tick falls is D12, the clock D11). -/
def Obligations.EnvelopeDividerCountsSamples : Prop :=
  ∀ (i : Instr) (s t : State), exec i s = .next t → i ≠ .reset →
    (i ≠ .sample → t.dev.envDiv = s.dev.envDiv) ∧
    (i = .sample → t.dev.envDiv.val = (s.dev.envDiv.val + 1) % 3 ∧
      ∀ c sl, (t.dev.op c sl).egClock =
        if s.dev.envDiv = 2 then (s.dev.op c sl).egClock + 1#32 else (s.dev.op c sl).egClock)

/-- R40: the pan bits gate each channel's contribution to the left and right output of every frame, as exact sums; they are written by WR_PAN and RESET only. -/
def Obligations.PanBitsGateEachChannel : Prop :=
  (∀ (cfg : Config) (d : Device),
    let y := fun c => (channelOut cfg ((clockEnvelopes cfg d).chan c)).toInt
    (sampleFrame cfg d).left.toInt = ∑ c : Fin 6, (if d.panL[c] then y c else 0) ∧
    (sampleFrame cfg d).right.toInt = ∑ c : Fin 6, (if d.panR[c] then y c else 0)) ∧
  (∀ (i : Instr) (s t : State) (c : ChanIx), exec i s = .next t → i ≠ .reset →
    (t.dev.panL[c] = s.dev.panL[c] ∧ t.dev.panR[c] = s.dev.panR[c]) ∨
      i = .wrPan c t.dev.panL[c] t.dev.panR[c])

/-- R35: `alg` and `fb` are written by WR_ALG_FB, `block` and `fnum` by WR_FNUM_LO (and all by RESET); feedback 0 is disabled. -/
def Obligations.ChannelParametersAreWrittenOnlyByTheirCommands : Prop :=
  (∀ (i : Instr) (s t : State) (c : ChanIx), exec i s = .next t → i ≠ .reset →
    let x := s.dev.chan c
    let y := t.dev.chan c
    ((y.alg = x.alg ∧ y.fb = x.fb) ∨ i = .wrAlgFb c y.alg y.fb) ∧
    ((y.fnum = x.fnum ∧ y.block = x.block) ∨ ∃ v, i = .wrFnumLo c v)) ∧
  (∀ x : Channel, x.fb = 0#3 → feedbackInput x = 0)

/-- R38 and R110: the overrides drive slots 0 to 2 of channel 2 in SPECIAL mode; every other operator, and every operator in NORMAL and CSM mode, uses its channel's pair;
the mode and the overrides are written only by their commands and by RESET. -/
def Obligations.OverridesDriveChannelTwoInSpecialMode : Prop :=
  (∀ (d : Device) (k : OverrideIx), d.ch3Mode = .special →
    effFreq d 2 (k.castSucc) = ⟨d.ch3Fnum[k], d.ch3Block[k]⟩) ∧
  (∀ (d : Device) (c : ChanIx) (s : Slot), c ≠ 2 ∨ s = 3 ∨ d.ch3Mode = .normal ∨ d.ch3Mode = .csm →
    effFreq d c s = ⟨(d.chan c).fnum, (d.chan c).block⟩) ∧
  (∀ (i : Instr) (s t : State), exec i s = .next t → i ≠ .reset →
    (t.dev.ch3Mode = s.dev.ch3Mode ∨ ∃ mode, i = .wrMode mode) ∧
    ∀ k : OverrideIx, (t.dev.ch3Fnum[k] = s.dev.ch3Fnum[k] ∧ t.dev.ch3Block[k] = s.dev.ch3Block[k]) ∨
      ∃ v, i = .wrCh3FnumLo k v)

/-- No register write changes a phase, an attenuation, an envelope clock, a memory or the divider, except WR_KEY, whose key-on clears a phase and a clock
(43_register_writes.md, the spec's own derivation from its rules). -/
def Obligations.WritesLeaveTheRunningStateAlone : Prop :=
  ∀ (i : Instr) (s t : State), i.isWrite = true → exec i s = .next t →
    t.dev.envDiv = s.dev.envDiv ∧
    (∀ c, (s.dev.chan c).sameMemories (t.dev.chan c)) ∧
    (∀ c sl, (t.dev.op c sl).env = (s.dev.op c sl).env ∧
      (keyBitOf i c sl = none → (s.dev.op c sl).sameRunning (t.dev.op c sl)) ∧
      (keyBitOf i c sl = some false → (t.dev.op c sl).phase = (s.dev.op c sl).phase ∧
        (t.dev.op c sl).egClock = (s.dev.op c sl).egClock))

/-- A repeated identical write is a no-op, and so is a repeated RESET (20_memory.md section 2 and 70_reset_and_hazards.md section 1, the spec's own derivations). -/
def Obligations.RepeatedWritesAreNoOps : Prop :=
  ∀ (i : Instr) (s t : State), i ≠ .sample → exec i s = .next t → exec i t = .next t

/-- Retrigger: a key-off then a key-on of a held or released slot restarts it, with its phase and clock at 0 and its attenuation as it was; a second key-on alone changes nothing of it (the key rules carry D38; the spec's own derivation). -/
def Obligations.KeyOffThenKeyOnRestartsTheNote : Prop :=
  (∀ (c : ChanIx) (sl : Slot) (offKeys onKeys : BitVec 4) (s t u : State),
    (s.dev.op c sl).Inv → offKeys.getLsbD sl.val = false → onKeys.getLsbD sl.val = true →
    exec (.wrKey c offKeys) s = .next t → exec (.wrKey c onKeys) t = .next u →
    u.dev.op c sl = { s.dev.op c sl with
      keyon := true, egState := .attack, phase := 0#20, egClock := 0#32 }) ∧
  (∀ (c : ChanIx) (sl : Slot) (onKeys : BitVec 4) (s t : State),
    (s.dev.op c sl).keyon = true → onKeys.getLsbD sl.val = true →
    exec (.wrKey c onKeys) s = .next t → t.dev.op c sl = s.dev.op c sl)

/-! ## The envelope generator -/

/-- R142, R143 and R144: a stage rate of 0 gives the triple (0, 0, 0), an open gate on every tick and increment 0; the key-scaled offset is the keycode shifted;
the effective rate is clamped to 63 and used only where the stage rate is not 0. -/
def Obligations.RatesFollowStageRateAndKeyScale : Prop :=
  (∀ (cfg : Config) (o : Operator) (kc : BitVec 5) (clk : BitVec 32), stageRate o = 0 →
    rateOf o kc = ⟨0#2, 0, 0⟩ ∧ gateOpen (rateOf o kc) clk = true ∧
    envIncrement cfg (rateOf o kc) clk = 0) ∧
  (∀ (kc : BitVec 5) (ks : BitVec 2), keyScaledOffset kc ks = kc.toNat >>> (3 - ks.toNat) ∧
    keyScaledOffset kc ks ≤ 31 ∧ keyScaledOffset kc 0#2 ≤ 3 ∧ keyScaledOffset kc 3#2 = kc.toNat) ∧
  (∀ (o : Operator) (kc : BitVec 5),
    effectiveRate o kc = min (2 * stageRate o + (kc.toNat >>> (3 - o.ks.toNat))) 63 ∧
    (stageRate o ≠ 0 → rateOf o kc = tripleOfRate (effectiveRate o kc)))

/-- The stage rate of each state, and the rate triple of an effective rate: the selector its low two bits, the shift falling to 0 at `g = 11` and staying there, the multiplier doubling from `g = 12`
(41_envelope.md sections 1 and 2; selector and split: D9, D10, 90_conflicts.md C1). -/
def Obligations.RateTripleSplitsAtTwelve : Prop :=
  (∀ o : Operator,
    stageRate o =
      (match o.egState with
        | .attack => o.ar.toNat
        | .decay => o.dr.toNat
        | .sustain => o.sr.toNat
        | .release => 2 * o.rr.toNat + 1
        | .off => 0) ∧
    stageRate o ≤ 31) ∧
  ∀ (o : Operator) (kc : BitVec 5), stageRate o ≠ 0 →
    let r := min (2 * stageRate o + (kc.toNat >>> (3 - o.ks.toNat))) 63
    let g := r / 4
    (rateOf o kc).sel.toNat = r % 4 ∧
    (g ≤ 11 → (rateOf o kc).shift = 11 - g ∧ (rateOf o kc).mul = 1) ∧
    (12 ≤ g → (rateOf o kc).shift = 0 ∧ (rateOf o kc).mul = 2 ^ (g - 12))

/-- R140: the states move only ATTACK to DECAY, DECAY to SUSTAIN and RELEASE to OFF of themselves; key-on enters ATTACK from RELEASE or OFF;
key-off enters RELEASE from ATTACK, DECAY or SUSTAIN; OFF is terminal until the next key-on or RESET. -/
def Obligations.EnvelopeStatesMoveAsTheRuleSays : Prop :=
  ∀ (i : Instr) (s t : State) (c : ChanIx) (sl : Slot), (s.dev.op c sl).Inv → exec i s = .next t →
    i ≠ .reset →
    let old := (s.dev.op c sl).egState
    let now := (t.dev.op c sl).egState
    (keyBitOf i c sl = some true → old = .release ∨ old = .off → now = .attack) ∧
    (keyBitOf i c sl = some false → old = .attack ∨ old = .decay ∨ old = .sustain → now = .release) ∧
    (now ≠ old →
      match old, now with
      | .attack, .decay => i = .sample
      | .decay, .sustain => i = .sample
      | .release, .off => i = .sample
      | .release, .attack => keyBitOf i c sl = some true
      | .off, .attack => keyBitOf i c sl = some true
      | .attack, .release => keyBitOf i c sl = some false
      | .decay, .release => keyBitOf i c sl = some false
      | .sustain, .release => keyBitOf i c sl = some false
      | _, _ => False)

/-- R151: a SUSTAIN tick adds the increment where the gate is open, clamped at 1023, and never leaves SUSTAIN. -/
def Obligations.SustainTickAddsAndStays : Prop :=
  ∀ (cfg : Config) (kc : BitVec 5) (o : Operator), o.egState = .sustain →
    (envelopeTick cfg kc o).egState = .sustain ∧
    (envelopeTick cfg kc o).env.toNat =
      if gateOpen (rateOf o kc) o.egClock = true then
        min (o.env.toNat + envIncrement cfg (rateOf o kc) o.egClock) 1023
      else o.env.toNat

/-- DECAY and RELEASE ticks: additive where the gate is open, DECAY ending at the sustain threshold and RELEASE at 1023, both tested after the addition (D13; the threshold's reading is 90_conflicts.md C2). -/
def Obligations.DecayAndReleaseTicksAddAndEnd : Prop :=
  ∀ (cfg : Config) (kc : BitVec 5) (o : Operator),
    let isOpen := o.egClock.toNat % 2 ^ (rateOf o kc).shift = 0
    let inc := cfg.rateIncTab (rateOf o kc).sel
      (BitVec.ofNat 3 (o.egClock.toNat >>> (rateOf o kc).shift)) * (rateOf o kc).mul
    let p := envelopeTick cfg kc o
    (¬ isOpen → p = { o with egClock := o.egClock + 1#32 }) ∧
    (isOpen → o.egState = .decay → p.env.toNat = min (o.env.toNat + inc) 1023 ∧
      p.egState = if (if o.sl = 15#4 then 992 else 32 * o.sl.toNat) ≤ p.env.toNat then .sustain else .decay) ∧
    (isOpen → o.egState = .release → p.env.toNat = min (o.env.toNat + inc) 1023 ∧
      p.egState = if p.env = 1023#10 then .off else .release)

/-- ATTACK: where the gate is open a tick takes the attenuation to `max 0 (env + floor ((-env - 1) * inc / 16))`, and to DECAY where that is 0; where it is closed only the clock moves.
With increment 0 the update leaves the attenuation, with a larger one it strictly falls from any value above 0 (41_envelope.md section 3; D13, D36, the gate's column D9, the clock D11). -/
def Obligations.AttackUpdateFalls : Prop :=
  (∀ (cfg : Config) (kc : BitVec 5) (o : Operator), o.egState = .attack →
    let isOpen := o.egClock.toNat % 2 ^ (rateOf o kc).shift = 0
    let inc := cfg.rateIncTab (rateOf o kc).sel
      (BitVec.ofNat 3 (o.egClock.toNat >>> (rateOf o kc).shift)) * (rateOf o kc).mul
    let env : Int := o.env.toNat
    let p := envelopeTick cfg kc o
    (¬ isOpen → p = { o with egClock := o.egClock + 1#32 }) ∧
    (isOpen → (p.env.toNat : Int) = max 0 (env + (-env - 1) * inc / 16) ∧
      p = { o with
        env := p.env
        egState := if p.env = 0#10 then .decay else .attack
        egClock := o.egClock + 1#32 })) ∧
  ∀ (inc : Nat) (o : Operator), o.egState = .attack →
    (inc = 0 → (attackUpdate inc o).env = o.env ∧
      ((attackUpdate inc o).egState = .decay ↔ o.env = 0#10)) ∧
    (0 < inc → 0 < o.env.toNat → (attackUpdate inc o).env.toNat < o.env.toNat) ∧
    ((attackUpdate inc o).egState = .decay ↔ (attackUpdate inc o).env = 0#10)

/-- No tick in ATTACK raises the attenuation and no tick in any other state lowers it, whatever the tables (10_state.md, the spec's own reading, 90_conflicts.md C5). -/
def Obligations.EnvelopeIsMonotone : Prop :=
  ∀ (cfg : Config) (kc : BitVec 5) (o : Operator),
    (o.egState = .attack → (envelopeTick cfg kc o).env.toNat ≤ o.env.toNat) ∧
    (o.egState ≠ .attack → o.env.toNat ≤ (envelopeTick cfg kc o).env.toNat)

/-- An operator as RESET leaves it turns OFF at its first tick, whatever its release rate, its keycode and the tables (41_envelope.md, the spec's own derivation). -/
def Obligations.FirstTickAfterResetTurnsOff : Prop :=
  ∀ (cfg : Config) (kc : BitVec 5) (o : Operator),
    o.egState = .release → o.env = 1023#10 → o.egClock = 0#32 →
    (envelopeTick cfg kc o).egState = .off ∧ (envelopeTick cfg kc o).env = 1023#10

/-- A released operator always falls silent: under the default tables, from any attenuation, clock and rate, RELEASE has reached OFF, fully attenuated, after 2^22 ticks
(41_envelope.md sections 1 to 3: the stage rate is never 0 and eight applied updates add at least 4; tables and rate split: D8, D9, D10). -/
def Obligations.ReleaseAlwaysReachesOff : Prop :=
  ∀ (kc : BitVec 5) (o : Operator) (n : Nat), o.egState = .release → 2 ^ 22 ≤ n →
    ((envelopeTick defaultConfig kc)^[n] o).egState = .off ∧
    ((envelopeTick defaultConfig kc)^[n] o).env = 1023#10

/-- An attack at effective rate 63 from full attenuation takes twelve ticks: attenuation 1 after eleven, then 0 and DECAY (70_reset_and_hazards.md, derived there; tables: D8, D9). -/
def Obligations.FullRateAttackTakesTwelveTicks : Prop :=
  ∀ (kc : BitVec 5) (o : Operator), o.egState = .attack → o.env = 1023#10 → o.egClock = 0#32 →
    o.ar ≠ 0#5 → effectiveRate o kc = 63 →
    ((envelopeTick defaultConfig kc)^[11] o).egState = .attack ∧
    ((envelopeTick defaultConfig kc)^[11] o).env = 1#10 ∧
    ((envelopeTick defaultConfig kc)^[12] o).egState = .decay ∧
    ((envelopeTick defaultConfig kc)^[12] o).env = 0#10

/-- Only bits 13:0 of an envelope clock are ever read: two clocks that agree on them tick alike and go on agreeing (10_state.md, the spec's own derivation; D11). -/
def Obligations.OnlyFourteenClockBitsAreRead : Prop :=
  ∀ (cfg : Config) (kc : BitVec 5) (o : Operator) (clk : BitVec 32),
    clk.extractLsb' 0 14 = o.egClock.extractLsb' 0 14 →
    let a := envelopeTick cfg kc o
    let b := envelopeTick cfg kc { o with egClock := clk }
    b = { a with egClock := clk + 1#32 } ∧
      (clk + 1#32).extractLsb' 0 14 = a.egClock.extractLsb' 0 14

/-! ## The operator datapath -/

/-- Under the default tables no operator output leaves the bound 8168, at any phase, modulation, attenuation and level; and the bound is reached (40_operator.md, derived there; tables: D6, D7). -/
def Obligations.OperatorOutputIsBounded : Prop :=
  (∀ (o : Operator) (m : Int), withinOutput (opOut defaultConfig o m).toInt) ∧
  ∃ (o : Operator) (m : Int), (opOut defaultConfig o m).toInt = 8168

/-- A fully attenuated operator, and one whose attenuation and level together reach 3328, outputs 0 at every phase and modulation, whatever the tables (40_operator.md, derived there; D7). -/
def Obligations.AttenuatedOperatorIsSilent : Prop :=
  ∀ (cfg : Config) (o : Operator) (m : Int),
    (o.env = 1023#10 → opOut cfg o m = 0#16) ∧
    (3328 ≤ 4 * o.env.toNat + 32 * o.tl.toNat → opOut cfg o m = 0#16) ∧
    (104 ≤ o.tl.toNat → opOut cfg o m = 0#16)

/-- The output of an operator, for all tables: the magnitude `(EXP_TAB[L mod 256] * 4) / 2^min(L / 256, 13)` at the folded index, negated in the second half of the period.
So the waveform is odd and periodic: half a period of modulation negates the output, a full one leaves it (40_operator.md section 3; index and pre-scale: D16; fold and sign: D15; the split of L: D7). -/
def Obligations.HalfAPeriodNegatesTheOutput : Prop :=
  ∀ (cfg : Config) (o : Operator) (m : Int),
    (let p := (((o.phase.toNat / 1024 : Nat) : Int) + m) % 1024
     let q := if p % 512 < 256 then p % 256 else 255 - p % 256
     let l := (cfg.logsinTab (BitVec.ofInt 8 q)).toNat + 4 * o.env.toNat + 32 * o.tl.toNat
     let mag := (cfg.expTab (BitVec.ofNat 8 (l % 256))).toNat * 4 / 2 ^ min (l / 256) 13
     (opOut cfg o m).toInt = if p < 512 then (mag : Int) else -(mag : Int)) ∧
    (opOut cfg o (m + 512)).toInt = -(opOut cfg o m).toInt ∧
    opOut cfg o (m + 1024) = opOut cfg o m

/-- The phase increment: the shifted frequency, its detune added or subtracted modulo 2^17, times the multiplier or halved for multiplier 0; the product always fits 21 bits (the spec's decisions D3, D4, D5). -/
def Obligations.PhaseIncrementIsTheDetunedProduct : Prop :=
  ∀ (cfg : Config) (f : Frequency) (det : BitVec 3) (mul : BitVec 4),
    let kc := f.block ++ cfg.fkTab (f.fnum.extractLsb' 7 4)
    let dt : Int := (cfg.dtTab (det.extractLsb' 0 2) kc).toNat
    let base : Int := ((f.fnum.toNat <<< f.block.toNat) >>> 1 : Nat)
    let detuned : Int := (if 4 ≤ det.toNat then base - dt else base + dt) % 2 ^ 17
    ((phaseIncOf cfg f det mul).toNat : Int) =
      if mul = 0#4 then detuned / 2 else detuned * mul.toNat

/-! ## The algorithms and the frame -/

/-- The eight algorithms, as the summary table of 42_algorithm.md gives them: each slot's modulation input, the store to the delay cell and the sum of the carriers, in terms of operator outputs;
the feedback input of slot 0 for every depth; and what a SAMPLE leaves in the delay cell: the store of algorithms 0, 1, 2, 3 and 5 in 32 bits, and the cell as it was in 4, 6 and 7
(wiring: the spec's decisions D16, D17, D18; feedback: D37). -/
def Obligations.AlgorithmsAreTheSummaryTable : Prop :=
  (∀ x : Channel, feedbackInput x =
    if x.fb = 0#3 then 0 else (x.fbMem1.toInt + x.fbMem2.toInt) / 2 ^ (9 - x.fb.toNat)) ∧
  (∀ (s t : State) (c : ChanIx), exec .sample s = .next t →
    let x := (clockEnvelopes defaultConfig s.dev).chan c
    let o0 := (opOut defaultConfig (x.op 0) (feedbackInput x)).toInt
    let o1 := fun m => (opOut defaultConfig (x.op 1) m).toInt
    let cell := (t.dev.chan c).algMem
    (x.alg = 0 ∨ x.alg = 3 → cell = wrap32 (o1 (o0 / 2))) ∧
    (x.alg = 1 → cell = wrap32 (o0 + o1 0)) ∧
    (x.alg = 2 → cell = wrap32 (o1 0)) ∧
    (x.alg = 5 → cell = wrap32 o0) ∧
    (x.alg = 4 ∨ x.alg = 6 ∨ x.alg = 7 → cell = (s.dev.chan c).algMem)) ∧
  ∀ (cfg : Config) (x : Channel),
    let pre := fun v : Int => v / 2 ^ cfg.modShift
    let d := x.algMem.toInt
    let o0 := (opOut cfg (x.op 0) (feedbackInput x)).toInt
    let o1 := fun m => (opOut cfg (x.op 1) m).toInt
    let o2 := fun m => (opOut cfg (x.op 2) m).toInt
    let o3 := fun m => (opOut cfg (x.op 3) m).toInt
    (x.alg = 0 → evalAlgorithm cfg x = ⟨some (o1 (pre o0)), o3 (pre (o2 (pre d)))⟩) ∧
    (x.alg = 1 → evalAlgorithm cfg x = ⟨some (o0 + o1 0), o3 (pre (o2 (pre d)))⟩) ∧
    (x.alg = 2 → evalAlgorithm cfg x = ⟨some (o1 0), o3 (pre (o0 + o2 (pre d)))⟩) ∧
    (x.alg = 3 → evalAlgorithm cfg x = ⟨some (o1 (pre o0)), o3 (pre (d + o2 0))⟩) ∧
    (x.alg = 4 → evalAlgorithm cfg x = ⟨none, o1 (pre o0) + o3 (pre (o2 0))⟩) ∧
    (x.alg = 5 → evalAlgorithm cfg x = ⟨some o0, o1 (pre o0) + o2 (pre d) + o3 (pre o0)⟩) ∧
    (x.alg = 6 → evalAlgorithm cfg x = ⟨none, o1 (pre o0) + o2 0 + o3 0⟩) ∧
    (x.alg = 7 → evalAlgorithm cfg x = ⟨none, o0 + o1 0 + o2 0 + o3 0⟩)

/-- Under the default tables the channel sum never wraps: it is at most 4 * 8168 in size, and the channel output is the sum itself.
Every modulation input an evaluation uses stays within 8168, but for slot 3 in algorithm 3, which stays within 12252 and reaches it from a delay cell algorithm 1 left:
there R188 and R195 and the bound R194 derives disagree, and the model follows R188 and R195 (log entry 13); from its second evaluation on algorithm 3 too stays within 8168
(42_algorithm.md section 3, derived there; D17, D19). -/
def Obligations.ChannelOutputNeverWraps : Prop :=
  (∀ x : Channel,
    -32672 ≤ (evalAlgorithm defaultConfig x).sum ∧ (evalAlgorithm defaultConfig x).sum ≤ 32672 ∧
    (channelOut defaultConfig x).toInt = (evalAlgorithm defaultConfig x).sum) ∧
  (∀ x : Channel, x.Inv →
    let i := slotInputs defaultConfig x
    withinOutput (feedbackInput x) ∧ withinOutput i.m1 ∧ withinOutput i.m2 ∧ withinMixed i.m3 ∧
    (x.alg ≠ 3#3 ∨ withinOutput x.algMem.toInt → withinOutput i.m3) ∧
    (x.alg = 3#3 → withinOutput (channelAfterOut defaultConfig x).algMem.toInt)) ∧
  (∃ x : Channel, x.Inv ∧ x.alg = 3#3 ∧ (slotInputs defaultConfig x).m3 = 12252) ∧
  ∀ (cfg : Config) (x : Channel),
    let i := slotInputs cfg x
    let o0 := (opOut cfg (x.op 0) (feedbackInput x)).toInt
    let o1 := (opOut cfg (x.op 1) i.m1).toInt
    let o2 := (opOut cfg (x.op 2) i.m2).toInt
    let o3 := (opOut cfg (x.op 3) i.m3).toInt
    (evalAlgorithm cfg x).store =
      (if x.alg = 0#3 ∨ x.alg = 2#3 ∨ x.alg = 3#3 then some o1
        else if x.alg = 1#3 then some (o0 + o1)
        else if x.alg = 5#3 then some o0
        else none) ∧
    (evalAlgorithm cfg x).sum =
      if x.alg.toNat < 4 then o3
      else if x.alg = 4#3 then o1 + o3
      else if x.alg = 7#3 then o0 + o1 + o2 + o3
      else o1 + o2 + o3

/-- Channels do not read each other's state: what a SAMPLE makes of a channel, and what that channel outputs, depends on that channel, the divider and, for channel 2, the channel-3 fields (44_sample_step.md, derived there). -/
def Obligations.ChannelsDoNotReadEachOther : Prop :=
  ∀ (cfg : Config) (d e : Device) (c : ChanIx), e.chan c = d.chan c → e.envDiv = d.envDiv →
    (c = 2 → e.ch3Mode = d.ch3Mode ∧ e.ch3Fnum = d.ch3Fnum ∧ e.ch3Block = d.ch3Block) →
    (sampleDevice cfg e).chan c = (sampleDevice cfg d).chan c ∧
    channelOut cfg ((clockEnvelopes cfg e).chan c) = channelOut cfg ((clockEnvelopes cfg d).chan c)

/-! ## Invariants and runs -/

/-- The invariant holds at reset (10_state.md; reset values: D27; the empty ports are log entries 1 and 3). -/
def Obligations.ResetMeetsTheInvariant : Prop := State.reset.Inv

/-- Every step keeps the invariant, from any state that meets it: `keyon` is true exactly in ATTACK, DECAY and SUSTAIN, an OFF operator is fully attenuated,
the memories stay within the bounds of one and two operator outputs, and every frame within six full channels (10_state.md, 42_algorithm.md; tables: D6, D7). -/
def Obligations.StepKeepsTheInvariant : Prop :=
  ∀ s t : State, s.Inv → step s = .next t → t.Inv

/-- Silence is kept: from any silent state, by any command that keys no operator on, the block stays silent and the frame of a SAMPLE is (0, 0) (70_reset_and_hazards.md, derived there). -/
def Obligations.SilenceIsKeptWithoutKeyOn : Prop :=
  ∀ (i : Instr) (s t : State), s.dev.Silent → (∀ c sl, keyBitOf i c sl ≠ some true) →
    exec i s = .next t →
    t.dev.Silent ∧ t.frames = if i = .sample then s.frames ++ [Frame.zero] else s.frames

/-- A silent block generates zeros: both buffer forms append exactly N zero frames over any count, and after two frames every feedback memory is 0 (70_reset_and_hazards.md, 42_algorithm.md, derived there). -/
def Obligations.SilentBlockGeneratesZeros : Prop :=
  ∀ (n : Nat) (d : Device) (b : StereoBuffers) (buf : List S32), d.Silent →
    generateStereo defaultConfig b n d =
      ⟨b.left ++ List.replicate n 0#32, b.right ++ List.replicate n 0#32⟩ ∧
    generateInterleaved defaultConfig buf n d = buf ++ List.replicate (2 * n) 0#32 ∧
    (2 ≤ n → ∀ c, ((sampleTimes defaultConfig n d).chan c).fbMem1 = 0#16 ∧
      ((sampleTimes defaultConfig n d).chan c).fbMem2 = 0#16)

/-- `gen N` runs the buffer form: N steps over N delivered `sample` words take exactly those words, leave the device N samples on,
and emit the frames whose left and right values `generate_stereo` appends and whose pairs `generate_interleaved` appends
(44_sample_step.md, 30_encoding.md; D29, D43; the delivered words and the emitted frames in the state are log entries 1 and 3). -/
def Obligations.GenRunsTheBufferForms : Prop :=
  ∀ (n : Nat) (s : State) (rest : List CommandWord) (b : StereoBuffers) (buf : List S32),
    s.commands = gen n ++ rest → ∃ t fs, Sys2Proof.core.run n s = .next t ∧
      t.commands = rest ∧ t.dev = sampleTimes defaultConfig n s.dev ∧
      t.frames = s.frames ++ fs ∧ fs.length = n ∧
      generateStereo defaultConfig b n s.dev =
        ⟨b.left ++ fs.map (·.left), b.right ++ fs.map (·.right)⟩ ∧
      generateInterleaved defaultConfig buf n s.dev = buf ++ fs.flatMap fun f => [f.left, f.right]

/-- Every prefix of commands runs to its end: a sequence with no word of kind 0b11 is run completely, one step a word, and no word of it is left (30_encoding.md, 60_exceptions.md; D1, log entry 1). -/
def Obligations.LegalSequencesRunToTheirEnd : Prop :=
  ∀ (ws rest : List CommandWord) (s : State), s.commands = ws ++ rest →
    (∀ w ∈ ws, w.extractLsb' 17 2 ≠ 3#2) →
    ∃ t, Sys2Proof.core.run ws.length s = .next t ∧ t.commands = rest ∧
      t.frames.length = s.frames.length + ws.countP (fun w => w.extractLsb' 17 2 == 1#2)

end
end

