-- ==== Sys2Proof/Laws/State.lean ====
section
/-! SUPPORT. One lemma for each field of each record update, so that no later proof unfolds an update. -/

namespace Sys2Proof.Machine

section StateUpdates
variable (s : State) (f : Device → Device)

@[simp] theorem State.updateDev_dev : (s.updateDev f).dev = f s.dev := rfl
@[simp] theorem State.updateDev_commands : (s.updateDev f).commands = s.commands := rfl
@[simp] theorem State.updateDev_frames : (s.updateDev f).frames = s.frames := rfl

end StateUpdates

section DeviceUpdates
variable (d : Device) (c : ChanIx) (sl : Slot) (f : Channel → Channel) (g : Operator → Operator)
  (h : ChanIx → Channel → Channel) (k : ChanIx → Slot → Operator → Operator)

@[simp] theorem Device.updateChan_latch : (d.updateChan c f).latch = d.latch := rfl
@[simp] theorem Device.updateChan_ch3Mode : (d.updateChan c f).ch3Mode = d.ch3Mode := rfl
@[simp] theorem Device.updateChan_ch3Fnum : (d.updateChan c f).ch3Fnum = d.ch3Fnum := rfl
@[simp] theorem Device.updateChan_ch3Block : (d.updateChan c f).ch3Block = d.ch3Block := rfl
@[simp] theorem Device.updateChan_envDiv : (d.updateChan c f).envDiv = d.envDiv := rfl
@[simp] theorem Device.updateChan_panL : (d.updateChan c f).panL = d.panL := rfl
@[simp] theorem Device.updateChan_panR : (d.updateChan c f).panR = d.panR := rfl
@[simp] theorem Device.updateOp_latch : (d.updateOp c sl g).latch = d.latch := rfl
@[simp] theorem Device.updateOp_ch3Mode : (d.updateOp c sl g).ch3Mode = d.ch3Mode := rfl
@[simp] theorem Device.updateOp_ch3Fnum : (d.updateOp c sl g).ch3Fnum = d.ch3Fnum := rfl
@[simp] theorem Device.updateOp_ch3Block : (d.updateOp c sl g).ch3Block = d.ch3Block := rfl
@[simp] theorem Device.updateOp_envDiv : (d.updateOp c sl g).envDiv = d.envDiv := rfl
@[simp] theorem Device.updateOp_panL : (d.updateOp c sl g).panL = d.panL := rfl
@[simp] theorem Device.updateOp_panR : (d.updateOp c sl g).panR = d.panR := rfl
@[simp] theorem Device.mapChans_latch : (d.mapChans h).latch = d.latch := rfl
@[simp] theorem Device.mapChans_ch3Mode : (d.mapChans h).ch3Mode = d.ch3Mode := rfl
@[simp] theorem Device.mapChans_ch3Fnum : (d.mapChans h).ch3Fnum = d.ch3Fnum := rfl
@[simp] theorem Device.mapChans_ch3Block : (d.mapChans h).ch3Block = d.ch3Block := rfl
@[simp] theorem Device.mapChans_envDiv : (d.mapChans h).envDiv = d.envDiv := rfl
@[simp] theorem Device.mapChans_panL : (d.mapChans h).panL = d.panL := rfl
@[simp] theorem Device.mapChans_panR : (d.mapChans h).panR = d.panR := rfl
@[simp] theorem Device.mapOps_latch : (d.mapOps k).latch = d.latch := rfl
@[simp] theorem Device.mapOps_ch3Mode : (d.mapOps k).ch3Mode = d.ch3Mode := rfl
@[simp] theorem Device.mapOps_ch3Fnum : (d.mapOps k).ch3Fnum = d.ch3Fnum := rfl
@[simp] theorem Device.mapOps_ch3Block : (d.mapOps k).ch3Block = d.ch3Block := rfl
@[simp] theorem Device.mapOps_envDiv : (d.mapOps k).envDiv = d.envDiv := rfl
@[simp] theorem Device.mapOps_panL : (d.mapOps k).panL = d.panL := rfl
@[simp] theorem Device.mapOps_panR : (d.mapOps k).panR = d.panR := rfl

end DeviceUpdates

section ChannelUpdates
variable (x : Channel) (sl : Slot) (g : Operator → Operator) (k : Slot → Operator → Operator)

@[simp] theorem Channel.updateOp_fbMem1 : (x.updateOp sl g).fbMem1 = x.fbMem1 := rfl
@[simp] theorem Channel.updateOp_fbMem2 : (x.updateOp sl g).fbMem2 = x.fbMem2 := rfl
@[simp] theorem Channel.updateOp_algMem : (x.updateOp sl g).algMem = x.algMem := rfl
@[simp] theorem Channel.updateOp_alg : (x.updateOp sl g).alg = x.alg := rfl
@[simp] theorem Channel.updateOp_fb : (x.updateOp sl g).fb = x.fb := rfl
@[simp] theorem Channel.updateOp_block : (x.updateOp sl g).block = x.block := rfl
@[simp] theorem Channel.updateOp_fnum : (x.updateOp sl g).fnum = x.fnum := rfl
@[simp] theorem Channel.mapOps_fbMem1 : (x.mapOps k).fbMem1 = x.fbMem1 := rfl
@[simp] theorem Channel.mapOps_fbMem2 : (x.mapOps k).fbMem2 = x.fbMem2 := rfl
@[simp] theorem Channel.mapOps_algMem : (x.mapOps k).algMem = x.algMem := rfl
@[simp] theorem Channel.mapOps_alg : (x.mapOps k).alg = x.alg := rfl
@[simp] theorem Channel.mapOps_fb : (x.mapOps k).fb = x.fb := rfl
@[simp] theorem Channel.mapOps_block : (x.mapOps k).block = x.block := rfl
@[simp] theorem Channel.mapOps_fnum : (x.mapOps k).fnum = x.fnum := rfl

end ChannelUpdates

section OperatorUpdates
variable (o : Operator) (inc : BitVec 21)

@[simp] theorem advancePhase_env : (advancePhase inc o).env = o.env := rfl
@[simp] theorem advancePhase_egState : (advancePhase inc o).egState = o.egState := rfl
@[simp] theorem advancePhase_egClock : (advancePhase inc o).egClock = o.egClock := rfl
@[simp] theorem advancePhase_keyon : (advancePhase inc o).keyon = o.keyon := rfl
@[simp] theorem advancePhase_tl : (advancePhase inc o).tl = o.tl := rfl
@[simp] theorem advancePhase_sl : (advancePhase inc o).sl = o.sl := rfl
@[simp] theorem advancePhase_ar : (advancePhase inc o).ar = o.ar := rfl
@[simp] theorem advancePhase_dr : (advancePhase inc o).dr = o.dr := rfl
@[simp] theorem advancePhase_sr : (advancePhase inc o).sr = o.sr := rfl
@[simp] theorem advancePhase_rr : (advancePhase inc o).rr = o.rr := rfl
@[simp] theorem advancePhase_mul : (advancePhase inc o).mul = o.mul := rfl
@[simp] theorem advancePhase_det : (advancePhase inc o).det = o.det := rfl
@[simp] theorem advancePhase_ks : (advancePhase inc o).ks = o.ks := rfl
@[simp] theorem advancePhase_phase : (advancePhase inc o).phase = o.phase + inc.setWidth 20 := rfl
@[simp] theorem advanceClock_phase : (advanceClock o).phase = o.phase := rfl
@[simp] theorem advanceClock_env : (advanceClock o).env = o.env := rfl
@[simp] theorem advanceClock_egState : (advanceClock o).egState = o.egState := rfl
@[simp] theorem advanceClock_keyon : (advanceClock o).keyon = o.keyon := rfl
@[simp] theorem advanceClock_tl : (advanceClock o).tl = o.tl := rfl
@[simp] theorem advanceClock_sl : (advanceClock o).sl = o.sl := rfl
@[simp] theorem advanceClock_ar : (advanceClock o).ar = o.ar := rfl
@[simp] theorem advanceClock_dr : (advanceClock o).dr = o.dr := rfl
@[simp] theorem advanceClock_sr : (advanceClock o).sr = o.sr := rfl
@[simp] theorem advanceClock_rr : (advanceClock o).rr = o.rr := rfl
@[simp] theorem advanceClock_mul : (advanceClock o).mul = o.mul := rfl
@[simp] theorem advanceClock_det : (advanceClock o).det = o.det := rfl
@[simp] theorem advanceClock_ks : (advanceClock o).ks = o.ks := rfl
@[simp] theorem advanceClock_egClock : (advanceClock o).egClock = o.egClock + 1#32 := rfl

end OperatorUpdates

section ChannelMemories
variable (cfg : Config) (x : Channel)

@[simp] theorem channelAfterOut_ops : (channelAfterOut cfg x).ops = x.ops := rfl
@[simp] theorem channelAfterOut_alg : (channelAfterOut cfg x).alg = x.alg := rfl
@[simp] theorem channelAfterOut_fb : (channelAfterOut cfg x).fb = x.fb := rfl
@[simp] theorem channelAfterOut_block : (channelAfterOut cfg x).block = x.block := rfl
@[simp] theorem channelAfterOut_fnum : (channelAfterOut cfg x).fnum = x.fnum := rfl
@[simp] theorem channelAfterOut_fbMem1 : (channelAfterOut cfg x).fbMem1 = x.fbMem2 := rfl
@[simp] theorem channelAfterOut_fbMem2 : (channelAfterOut cfg x).fbMem2 = slotZeroOut cfg x := rfl

end ChannelMemories

end Sys2Proof.Machine
end

