-- ==== Sys2Proof/Laws/Ops.lean ====
section
/-! SUPPORT. The state primitives of R13 read back: what each reads after a write to one place, and after a loop over all places. -/

namespace Sys2Proof.Machine

/-- A channel read after a write to one channel. -/
theorem Device.chan_updateChan (d : Device) (c c' : ChanIx) (f : Channel → Channel) :
    (d.updateChan c f).chan c' = if c' = c then f (d.chan c) else d.chan c' := by
  simp only [Device.chan, Device.updateChan, Fin.getElem_fin, Vector.getElem_set, Fin.val_inj, eq_comm]

@[simp] theorem Device.chan_updateChan_self (d : Device) (c : ChanIx) (f : Channel → Channel) :
    (d.updateChan c f).chan c = f (d.chan c) := by
  simp [Device.chan_updateChan]

theorem Device.chan_updateChan_of_ne (d : Device) {c c' : ChanIx} (f : Channel → Channel) (h : c' ≠ c) :
    (d.updateChan c f).chan c' = d.chan c' := by
  simp [Device.chan_updateChan, h]

/-- An operator of a channel read after a write to one operator of it. -/
theorem Channel.op_updateOp (x : Channel) (s s' : Slot) (f : Operator → Operator) :
    (x.updateOp s f).op s' = if s' = s then f (x.op s) else x.op s' := by
  simp only [Channel.op, Channel.updateOp, Fin.getElem_fin, Vector.getElem_set, Fin.val_inj, eq_comm]

/-- An operator read after a write to one operator. -/
theorem Device.op_updateOp (d : Device) (c c' : ChanIx) (s s' : Slot) (f : Operator → Operator) :
    (d.updateOp c s f).op c' s' = if c' = c ∧ s' = s then f (d.op c s) else d.op c' s' := by
  unfold Device.op Device.updateOp
  rw [Device.chan_updateChan]
  by_cases hc : c' = c
  · subst hc
    simp [Channel.op_updateOp]
  · simp [hc]

@[simp] theorem Device.op_updateOp_self (d : Device) (c : ChanIx) (s : Slot) (f : Operator → Operator) :
    (d.updateOp c s f).op c s = f (d.op c s) := by
  simp [Device.op_updateOp]

/-- A channel read after a write to one operator: its fields of R32 are those before. -/
theorem Device.chan_updateOp (d : Device) (c c' : ChanIx) (s : Slot) (f : Operator → Operator) :
    (d.updateOp c s f).chan c' = if c' = c then (d.chan c).updateOp s f else d.chan c' := by
  unfold Device.updateOp
  rw [Device.chan_updateChan]

/-- A channel read after a loop over the channels. -/
@[simp] theorem Device.chan_mapChans (d : Device) (f : ChanIx → Channel → Channel) (c : ChanIx) :
    (d.mapChans f).chan c = f c (d.chan c) := by
  simp [Device.chan, Device.mapChans]

/-- An operator of a channel read after a loop over its slots. -/
@[simp] theorem Channel.op_mapOps (x : Channel) (f : Slot → Operator → Operator) (s : Slot) :
    (x.mapOps f).op s = f s (x.op s) := by
  simp [Channel.op, Channel.mapOps]

/-- A channel read after a loop over the operators. -/
@[simp] theorem Device.chan_mapOps (d : Device) (f : ChanIx → Slot → Operator → Operator) (c : ChanIx) :
    (d.mapOps f).chan c = (d.chan c).mapOps (f c) := by
  simp [Device.mapOps]

/-- An operator read after a loop over the operators. -/
@[simp] theorem Device.op_mapOps (d : Device) (f : ChanIx → Slot → Operator → Operator) (c : ChanIx) (s : Slot) :
    (d.mapOps f).op c s = f c s (d.op c s) := by
  unfold Device.op
  rw [Device.chan_mapOps, Channel.op_mapOps]


end Sys2Proof.Machine
end

