-- ==== Sys2Proof/Laws/Algorithm.lean ====
section
/-! SUPPORT. What the evaluation of a channel reads and leaves, said once: the evaluator each algorithm selects, and the fields an evaluation writes. -/

namespace Sys2Proof.Machine

section
variable (cfg : Config) (x : Channel)


/-- An evaluation that stores leaves its store, wrapped (R184). -/
theorem channelAfterOut_algMem_of_store {v : Int} (h : (evalAlgorithm cfg x).store = some v) :
    (channelAfterOut cfg x).algMem = wrap32 v := by
  simp [channelAfterOut, h]

/-- An evaluation that does not store leaves the delay cell as it was (R184). -/
theorem channelAfterOut_algMem_of_none (h : (evalAlgorithm cfg x).store = none) :
    (channelAfterOut cfg x).algMem = x.algMem := by
  simp [channelAfterOut, h]

/-- A three-bit algorithm number is one of the eight of R185 to R192. -/
theorem alg_cases (a : BitVec 3) :
    a = 0#3 ∨ a = 1#3 ∨ a = 2#3 ∨ a = 3#3 ∨ a = 4#3 ∨ a = 5#3 ∨ a = 6#3 ∨ a = 7#3 := by
  revert a; decide

/-! The evaluator each algorithm number selects (R185 to R192). -/

theorem algorithm_zero (a : AlgInput) : algorithm 0#3 a = algorithm0 a := rfl
theorem algorithm_one (a : AlgInput) : algorithm 1#3 a = algorithm1 a := rfl
theorem algorithm_two (a : AlgInput) : algorithm 2#3 a = algorithm2 a := rfl
theorem algorithm_three (a : AlgInput) : algorithm 3#3 a = algorithm3 a := rfl
theorem algorithm_four (a : AlgInput) : algorithm 4#3 a = algorithm4 a := rfl
theorem algorithm_five (a : AlgInput) : algorithm 5#3 a = algorithm5 a := rfl
theorem algorithm_six (a : AlgInput) : algorithm 6#3 a = algorithm6 a := rfl
theorem algorithm_seven (a : AlgInput) : algorithm 7#3 a = algorithm7 a := rfl

end

end Sys2Proof.Machine
end

