-- ==== Sys2Proof/Laws/Decode.lean ====
section
/-! SUPPORT. The fields of a WRITE word read back, and the step on a delivered command. -/

namespace Sys2Proof

section WriteWord
variable (bank : BitVec 1) (r v : Byte)

/-- A WRITE word as a number (R82). -/
theorem writeWord_toNat :
    (writeWord bank r v).toNat = bank.toNat * 2 ^ 16 + r.toNat * 2 ^ 8 + v.toNat := by
  have h1 := BitVec.toNat_append (0#2 ++ bank ++ r) v
  have h2 := BitVec.toNat_append (0#2 ++ bank) r
  have h3 := BitVec.toNat_append 0#2 bank
  rw [← Nat.shiftLeft_add_eq_or_of_lt v.isLt, Nat.shiftLeft_eq] at h1
  rw [← Nat.shiftLeft_add_eq_or_of_lt r.isLt, Nat.shiftLeft_eq] at h2
  rw [← Nat.shiftLeft_add_eq_or_of_lt bank.isLt, Nat.shiftLeft_eq] at h3
  have h0 : (0#2).toNat = 0 := rfl
  have h4 : (writeWord bank r v).toNat = (0#2 ++ bank ++ r ++ v).toNat := rfl
  omega

@[simp] theorem writeWord_kind : (writeWord bank r v).extractLsb' 17 2 = 0#2 := by
  apply BitVec.eq_of_toNat_eq
  simp only [BitVec.extractLsb'_toNat, writeWord_toNat, Nat.shiftRight_eq_div_pow, BitVec.toNat_ofNat]
  omega

@[simp] theorem writeWord_bank : (writeWord bank r v).extractLsb' 16 1 = bank := by
  apply BitVec.eq_of_toNat_eq
  simp only [BitVec.extractLsb'_toNat, writeWord_toNat, Nat.shiftRight_eq_div_pow]
  omega

@[simp] theorem writeWord_function : (writeWord bank r v).extractLsb' 8 8 = r := by
  apply BitVec.eq_of_toNat_eq
  simp only [BitVec.extractLsb'_toNat, writeWord_toNat, Nat.shiftRight_eq_div_pow]
  omega

@[simp] theorem writeWord_data : (writeWord bank r v).extractLsb' 0 8 = v := by
  apply BitVec.eq_of_toNat_eq
  simp only [BitVec.extractLsb'_toNat, writeWord_toNat, Nat.shiftRight_eq_div_pow]
  omega

/-- A WRITE word decodes as R210 decodes its bank, function byte and data byte. -/
@[simp] theorem decode_writeWord : decode (writeWord bank r v) = .ok (decodeWrite bank r v) := by
  simp [decode]

end WriteWord

/-- The channel index of the bank and selector of a channel is that channel (R85). -/
@[simp] theorem chanIndex_bankOf_selectorOf (c : ChanIx) : chanIndex (bankOf c) (selectorOf c) = some c := by
  revert c
  decide

end Sys2Proof

namespace Sys2Proof.Machine

/-- The step on a delivered command that the decoder reads is that command's meaning, with the command taken. -/
theorem step_of_decode {s : State} {w : CommandWord} {rest : List CommandWord} {i : Instr}
    (hc : s.commands = w :: rest) (hd : decode w = .ok i) : step s = exec i { s with commands := rest } := by
  simp [step, hc, hd]

end Sys2Proof.Machine
end

