-- ==== Sys2Proof/Laws/Envelope.lean ====
section
/-! SUPPORT. What an update of the envelope generator can do, said once for each state. -/

namespace Sys2Proof.Machine

/-- The raised attenuation stays in range (R149, R151). -/
theorem raisedEnv_le (inc : Nat) (o : Operator) : raisedEnv inc o ≤ 1023 := Nat.min_le_right _ _

/-- The attack target as an integer never exceeds the attenuation it starts from (R148). -/
theorem attack_target_le (env inc : Nat) : (env : Int) + asr ((-(env : Int) - 1) * inc) 4 ≤ env := by
  have h : (-(env : Int) - 1) * inc ≤ 0 := by
    have : (0 : Int) ≤ ((env : Int) + 1) * inc := by positivity
    linarith [this, show (-(env : Int) - 1) * inc = -(((env : Int) + 1) * inc) by ring]
  unfold asr
  omega

/-- The attenuation after an ATTACK update, as a number (R148). -/
theorem attackUpdate_env (inc : Nat) (o : Operator) :
    ((attackUpdate inc o).env.toNat : Int) =
      max 0 ((o.env.toNat : Int) + asr ((-(o.env.toNat : Int) - 1) * inc) 4) := by
  have hle := attack_target_le o.env.toNat inc
  have hlt := o.env.isLt
  unfold attackUpdate
  simp only
  split
  case isTrue h => simp; omega
  case isFalse h =>
    simp only [BitVec.toNat_ofInt]
    omega

/-- The state after an ATTACK update (R148). -/
theorem attackUpdate_egState (inc : Nat) (o : Operator) :
    (attackUpdate inc o).egState =
      if (o.env.toNat : Int) + asr ((-(o.env.toNat : Int) - 1) * inc) 4 ≤ 0 then .decay else o.egState := by
  unfold attackUpdate
  simp only
  split <;> rfl

/-- The attenuation after a DECAY update, as a number (R149). -/
theorem decayUpdate_env (inc : Nat) (o : Operator) :
    (decayUpdate inc o).env.toNat = min (o.env.toNat + inc) 1023 := by
  have h := raisedEnv_le inc o
  unfold decayUpdate
  simp only
  split <;> simp only [BitVec.toNat_ofNat] <;> unfold raisedEnv at * <;> omega

/-- The state after a DECAY update (R149). -/
theorem decayUpdate_egState (inc : Nat) (o : Operator) :
    (decayUpdate inc o).egState =
      if sustainThreshold o.sl ≤ min (o.env.toNat + inc) 1023 then .sustain else o.egState := by
  unfold decayUpdate raisedEnv
  simp only
  split <;> rfl

/-- The attenuation after a SUSTAIN update, as a number (R151). -/
theorem sustainUpdate_env (inc : Nat) (o : Operator) :
    (sustainUpdate inc o).env.toNat = min (o.env.toNat + inc) 1023 := by
  unfold sustainUpdate raisedEnv
  simp only [BitVec.toNat_ofNat]
  omega

@[simp] theorem sustainUpdate_egState (inc : Nat) (o : Operator) :
    (sustainUpdate inc o).egState = o.egState := rfl

/-- The attenuation after a RELEASE update, as a number (R152). -/
theorem releaseUpdate_env (inc : Nat) (o : Operator) :
    (releaseUpdate inc o).env.toNat = min (o.env.toNat + inc) 1023 := by
  unfold releaseUpdate
  simp only
  split
  · simp; omega
  · simp only [BitVec.toNat_ofNat]; omega

/-- The state after a RELEASE update (R152). -/
theorem releaseUpdate_egState (inc : Nat) (o : Operator) :
    (releaseUpdate inc o).egState = if 1023 ≤ o.env.toNat + inc then .off else o.egState := by
  unfold releaseUpdate
  simp only
  split <;> rfl

/-- An update writes the attenuation and the state, and nothing else (R148 to R153). -/
theorem envUpdate_eq (inc : Nat) (o : Operator) :
    envUpdate inc o = { o with env := (envUpdate inc o).env, egState := (envUpdate inc o).egState } := by
  unfold envUpdate attackUpdate decayUpdate sustainUpdate releaseUpdate
  split <;> first | rfl | (simp only; split <;> rfl)

/-- The gated update writes the attenuation and the state, and nothing else (R147). -/
theorem gatedUpdate_eq (cfg : Config) (kc : BitVec 5) (o : Operator) :
    gatedUpdate cfg kc o =
      { o with env := (gatedUpdate cfg kc o).env, egState := (gatedUpdate cfg kc o).egState } := by
  unfold gatedUpdate
  simp only
  split
  · exact envUpdate_eq _ o
  · rfl

/-- A tick writes the attenuation, the state and the clock, and nothing else (R155). -/
theorem envelopeTick_eq (cfg : Config) (kc : BitVec 5) (o : Operator) :
    envelopeTick cfg kc o =
      { o with
        env := (gatedUpdate cfg kc o).env
        egState := (gatedUpdate cfg kc o).egState
        egClock := o.egClock + 1#32 } := by
  unfold envelopeTick advanceClock
  rw [gatedUpdate_eq]

/-- The state transitions one update can make (R140). -/
theorem envUpdate_egState (inc : Nat) (o : Operator) :
    (envUpdate inc o).egState = o.egState ∨
      (o.egState = .attack ∧ (envUpdate inc o).egState = .decay ∧ (envUpdate inc o).env = 0#10) ∨
      (o.egState = .decay ∧ (envUpdate inc o).egState = .sustain) ∨
      (o.egState = .release ∧ (envUpdate inc o).egState = .off ∧ (envUpdate inc o).env = 1023#10) := by
  unfold envUpdate
  split
  case h_1 h =>
    unfold attackUpdate
    simp only
    split <;> simp [h]
  case h_2 h =>
    rw [decayUpdate_egState]
    split <;> simp [h]
  case h_3 h => simp
  case h_4 h =>
    unfold releaseUpdate
    simp only
    split <;> simp [h]
  case h_5 h => simp

/-- The state transitions one tick can make (R140, R155). -/
theorem envelopeTick_egState (cfg : Config) (kc : BitVec 5) (o : Operator) :
    (envelopeTick cfg kc o).egState = o.egState ∨
      (o.egState = .attack ∧ (envelopeTick cfg kc o).egState = .decay ∧ (envelopeTick cfg kc o).env = 0#10) ∨
      (o.egState = .decay ∧ (envelopeTick cfg kc o).egState = .sustain) ∨
      (o.egState = .release ∧ (envelopeTick cfg kc o).egState = .off ∧
        (envelopeTick cfg kc o).env = 1023#10) := by
  unfold envelopeTick gatedUpdate
  simp only
  split
  · exact envUpdate_egState _ o
  · exact .inl rfl

end Sys2Proof.Machine
end

