-- ==== Sys2Proof/Laws/PerInstr.lean ====
section
/-! SUPPORT. The family of facts stated for every command: the kind its encoding carries (R82). -/

namespace Sys2Proof.Laws.EncodedKind

/-- The word of a command carries its kind: 0b00 for a register write, 0b01 for SAMPLE, 0b10 for RESET, never 0b11 (R82, R94). -/
def Statement (i : Instr) : Prop :=
  (encode i).extractLsb' 17 2 =
    if i.isWrite then 0#2 else if i = .sample then 1#2 else 2#2

theorem wrMode (mode : BitVec 2) : Statement (.wrMode mode) := writeWord_kind _ _ _

theorem wrKey (c : ChanIx) (keys : BitVec 4) : Statement (.wrKey c keys) := writeWord_kind _ _ _

theorem wrDtMul (c : ChanIx) (s : Slot) (det : BitVec 3) (mul : BitVec 4) :
    Statement (.wrDtMul c s det mul) := writeWord_kind _ _ _

theorem wrTl (c : ChanIx) (s : Slot) (tl : BitVec 7) : Statement (.wrTl c s tl) := writeWord_kind _ _ _

theorem wrKsAr (c : ChanIx) (s : Slot) (ks : BitVec 2) (ar : BitVec 5) :
    Statement (.wrKsAr c s ks ar) := writeWord_kind _ _ _

theorem wrDr (c : ChanIx) (s : Slot) (dr : BitVec 5) : Statement (.wrDr c s dr) := writeWord_kind _ _ _

theorem wrSr (c : ChanIx) (s : Slot) (sr : BitVec 5) : Statement (.wrSr c s sr) := writeWord_kind _ _ _

theorem wrSlRr (c : ChanIx) (s : Slot) (sl : BitVec 4) (rr : BitVec 4) :
    Statement (.wrSlRr c s sl rr) := writeWord_kind _ _ _

theorem wrFnumHi (block : BitVec 3) (fnumHi : BitVec 3) :
    Statement (.wrFnumHi block fnumHi) := writeWord_kind _ _ _

theorem wrFnumLo (c : ChanIx) (fnumLo : BitVec 8) : Statement (.wrFnumLo c fnumLo) := writeWord_kind _ _ _

theorem wrCh3FnumLo (k : OverrideIx) (fnumLo : BitVec 8) :
    Statement (.wrCh3FnumLo k fnumLo) := writeWord_kind _ _ _

theorem wrAlgFb (c : ChanIx) (alg : BitVec 3) (fb : BitVec 3) :
    Statement (.wrAlgFb c alg fb) := writeWord_kind _ _ _

theorem wrPan (c : ChanIx) (left : Bool) (right : Bool) :
    Statement (.wrPan c left right) := writeWord_kind _ _ _

theorem sample : Statement .sample := by
  unfold Statement
  decide

theorem reset : Statement .reset := by
  unfold Statement
  decide

theorem ignore (bank : BitVec 1) (r : Byte) (v : Byte) : Statement (.ignore bank r v) :=
  writeWord_kind _ _ _

end Sys2Proof.Laws.EncodedKind
end

