-- ==== Sys2Proof/Laws/Waveform.lean ====
section
/-! SUPPORT. The values of the operator datapath, said once: the output as an integer and its size under any tables. -/

namespace Sys2Proof.Machine

/-- The default multiplication by four before the antilog shift keeps every magnitude inside thirteen bits (R120). -/
theorem magnitude_le (cfg : Config) (l : Nat) : magnitude cfg l ≤ 8188 := by
  unfold magnitude
  have h : (cfg.expTab (BitVec.ofNat 8 l)).toNat < 2 ^ 11 := (cfg.expTab _).isLt
  calc (cfg.expTab (BitVec.ofNat 8 l)).toNat * 2 ^ 2 / 2 ^ min (l / 2 ^ 8) 13
      ≤ (cfg.expTab (BitVec.ofNat 8 l)).toNat * 2 ^ 2 := Nat.div_le_self _ _
    _ ≤ 8188 := by omega

/-- A shift of 13 saturates to zero output, whatever the tables (R120). -/
theorem magnitude_of_silent (cfg : Config) {l : Nat} (h : 13 * 2 ^ 8 ≤ l) : magnitude cfg l = 0 := by
  have hexp : (cfg.expTab (BitVec.ofNat 8 l)).toNat < 2 ^ 11 := (cfg.expTab _).isLt
  have hmin : min (l / 2 ^ 8) 13 = 13 := by omega
  unfold magnitude
  rw [hmin]
  omega

/-- The sign applied to a magnitude that the clamp leaves alone (R122). -/
theorem signedOutput_toInt (p : BitVec 10) {mag : Nat} (h : mag ≤ 8188) :
    (signedOutput p mag).toInt = if p.getLsbD 9 then -(mag : Int) else mag := by
  unfold signedOutput clamp wrap16
  rw [BitVec.toInt_ofInt]
  split <;> simp only [Int.bmod] <;> omega

/-- The output of an operator as an integer (R116): the clamp is never reached. -/
theorem opOut_toInt (cfg : Config) (o : Operator) (m : Int) :
    (opOut cfg o m).toInt =
      (if (waveIndex o.phase m).getLsbD 9 then -1 else 1) *
        (magnitude cfg (attenuation cfg (quarterIndex (waveIndex o.phase m)) o.env o.tl) : Int) := by
  unfold opOut
  rw [signedOutput_toInt _ (magnitude_le cfg _)]
  split <;> omega

end Sys2Proof.Machine
end

