-- ==== Sys2Proof/Laws/Sample.lean ====
section
/-! SUPPORT. What one SAMPLE does to each operator, channel and field of the device, said once. -/

namespace Sys2Proof.Machine

/-- The effective frequency reads the channel's pair and the channel-3 fields, and nothing else (R110). -/
theorem effFreq_congr {d e : Device} {c : ChanIx} {s : Slot} (hf : (e.chan c).fnum = (d.chan c).fnum)
    (hb : (e.chan c).block = (d.chan c).block) (hm : e.ch3Mode = d.ch3Mode)
    (h3f : e.ch3Fnum = d.ch3Fnum) (h3b : e.ch3Block = d.ch3Block) : effFreq e c s = effFreq d c s := by
  unfold effFreq
  simp only [hf, hb, hm, h3f, h3b]

/-- An evaluation of a channel writes no operator (R180). -/
@[simp] theorem channelAfterOut_op (cfg : Config) (x : Channel) (s : Slot) :
    (channelAfterOut cfg x).op s = x.op s := rfl

section Divider
variable (cfg : Config) (d : Device) (c : ChanIx) (s : Slot)

/-- The divider counts modulo 3 (R251). -/
theorem clockEnvelopes_envDiv : (clockEnvelopes cfg d).envDiv = if d.envDiv = 2 then 0 else d.envDiv + 1 := by
  unfold clockEnvelopes
  split <;> rfl

@[simp] theorem clockEnvelopes_panL : (clockEnvelopes cfg d).panL = d.panL := by
  unfold clockEnvelopes; split <;> rfl

@[simp] theorem clockEnvelopes_panR : (clockEnvelopes cfg d).panR = d.panR := by
  unfold clockEnvelopes; split <;> rfl

@[simp] theorem clockEnvelopes_latch : (clockEnvelopes cfg d).latch = d.latch := by
  unfold clockEnvelopes; split <;> rfl

@[simp] theorem clockEnvelopes_ch3Mode : (clockEnvelopes cfg d).ch3Mode = d.ch3Mode := by
  unfold clockEnvelopes; split <;> rfl

@[simp] theorem clockEnvelopes_ch3Fnum : (clockEnvelopes cfg d).ch3Fnum = d.ch3Fnum := by
  unfold clockEnvelopes; split <;> rfl

@[simp] theorem clockEnvelopes_ch3Block : (clockEnvelopes cfg d).ch3Block = d.ch3Block := by
  unfold clockEnvelopes; split <;> rfl

/-- A channel after the divider: its operators ticked where it wraps, its fields of R32 as before. -/
theorem chan_clockEnvelopes :
    (clockEnvelopes cfg d).chan c =
      if d.envDiv = 2 then (d.chan c).mapOps fun s o => envelopeTick cfg (keycode cfg d c s) o
      else d.chan c := by
  unfold clockEnvelopes
  split
  · exact Device.chan_mapOps d _ c
  · rfl

/-- An operator after the divider: ticked in the SAMPLE in which it wraps from 2 to 0 (R251). -/
theorem op_clockEnvelopes :
    (clockEnvelopes cfg d).op c s =
      if d.envDiv = 2 then envelopeTick cfg (keycode cfg d c s) (d.op c s) else d.op c s := by
  unfold Device.op
  rw [chan_clockEnvelopes]
  split
  · exact Channel.op_mapOps _ _ s
  · rfl

/-- The envelope clock changes no frequency (R251). -/
theorem effFreq_clockEnvelopes : effFreq (clockEnvelopes cfg d) c s = effFreq d c s := by
  apply effFreq_congr <;> simp [chan_clockEnvelopes] <;> split <;> rfl

end Divider

section Sampling
variable (cfg : Config) (d : Device) (c : ChanIx) (s : Slot)

/-- The evaluation of the channels changes no frequency (R182, R184). -/
theorem effFreq_evalChannels : effFreq (evalChannels cfg d) c s = effFreq d c s := by
  apply effFreq_congr <;> simp [evalChannels]

@[simp] theorem op_evalChannels : (evalChannels cfg d).op c s = d.op c s := by
  simp [Device.op, evalChannels]

/-- The phase increment of a SAMPLE is that of the state it starts from (R115): no step of it writes a frequency or a tone parameter. -/
theorem phaseInc_afterOut :
    phaseInc cfg (evalChannels cfg (clockEnvelopes cfg d)) c s = phaseInc cfg d c s := by
  unfold phaseInc
  rw [effFreq_evalChannels, effFreq_clockEnvelopes, op_evalChannels, op_clockEnvelopes]
  split
  · rw [envelopeTick_eq]
  · rfl

/-- An operator after one SAMPLE: its envelope ticked where the divider wraps, then its phase advanced (R250). -/
theorem op_sampleDevice :
    (sampleDevice cfg d).op c s =
      advancePhase (phaseInc cfg d c s)
        (if d.envDiv = 2 then envelopeTick cfg (keycode cfg d c s) (d.op c s) else d.op c s) := by
  unfold sampleDevice advancePhases
  rw [Device.op_mapOps, phaseInc_afterOut, op_evalChannels, op_clockEnvelopes]

/-- A channel after one SAMPLE: its memories are those its evaluation leaves (R182, R184). -/
theorem chan_sampleDevice :
    (sampleDevice cfg d).chan c =
      (channelAfterOut cfg ((clockEnvelopes cfg d).chan c)).mapOps fun s o =>
        advancePhase (phaseInc cfg d c s) o := by
  unfold sampleDevice advancePhases
  rw [Device.chan_mapOps]
  simp only [phaseInc_afterOut]
  simp [evalChannels]

@[simp] theorem sampleDevice_latch : (sampleDevice cfg d).latch = d.latch :=
  clockEnvelopes_latch cfg d

@[simp] theorem sampleDevice_ch3Mode : (sampleDevice cfg d).ch3Mode = d.ch3Mode :=
  clockEnvelopes_ch3Mode cfg d

@[simp] theorem sampleDevice_ch3Fnum : (sampleDevice cfg d).ch3Fnum = d.ch3Fnum :=
  clockEnvelopes_ch3Fnum cfg d

@[simp] theorem sampleDevice_ch3Block : (sampleDevice cfg d).ch3Block = d.ch3Block :=
  clockEnvelopes_ch3Block cfg d

@[simp] theorem sampleDevice_panL : (sampleDevice cfg d).panL = d.panL :=
  clockEnvelopes_panL cfg d

@[simp] theorem sampleDevice_panR : (sampleDevice cfg d).panR = d.panR :=
  clockEnvelopes_panR cfg d

/-- The divider after one SAMPLE (R251). -/
theorem sampleDevice_envDiv : (sampleDevice cfg d).envDiv = if d.envDiv = 2 then 0 else d.envDiv + 1 :=
  clockEnvelopes_envDiv cfg d

end Sampling

end Sys2Proof.Machine
end

