-- ==== Sys2Proof/Tests/Slice0.lean ====
section
/-! SUPPORT. The model's own tests. Every expected value is the spec's: the words and vectors of 95_test_vectors.md, or an encoding of 30_encoding.md written out by hand. -/

namespace Sys2Proof.Tests
open Sys2Proof Sys2Proof.Machine

/-! ## WellFormed: an ill-formed term for the one check, in each range of R93, and the edges of the ranges -/

theorem test_wellFormed_refuses_mode_register : (Instr.ignore 0#1 0x27#8 0#8).wellFormed = false := by decide
theorem test_wellFormed_refuses_key_register : (Instr.ignore 0#1 0x28#8 0xF2#8).wellFormed = false := by decide
theorem test_wellFormed_refuses_operator_register : (Instr.ignore 1#1 0x30#8 0#8).wellFormed = false := by decide
theorem test_wellFormed_refuses_frequency_register :
    (Instr.ignore 0#1 0xA7#8 0#8).wellFormed = false ∧ (Instr.ignore 0#1 0xAB#8 0#8).wellFormed = false := by decide
theorem test_wellFormed_refuses_pan_register : (Instr.ignore 1#1 0xB6#8 0#8).wellFormed = false := by decide
theorem test_wellFormed_admits_the_ignored_edges :
    [0x00, 0x26, 0x29, 0x2F, 0x33, 0x8F, 0x90, 0x9F, 0xA3, 0xB3, 0xB7, 0xB8, 0xFF].all
      (fun r => (Instr.ignore 1#1 (BitVec.ofNat 8 r) 0#8).wellFormed) = true := by decide

/-! ## Decode: words from the spec's encodings, at least one for each constructor -/

theorem test_decode_wrMode : decode 0x127FF#19 = .ok (.wrMode 3#2) := by decide
theorem test_decode_wrKey : decode 0x028F8#19 = .ok (.wrKey 0 0xF#4) := by decide
theorem test_decode_wrDtMul :
    decode 0x03D75#19 = .ok (.wrDtMul 1 3 7#3 5#4) ∧ decode 0x13475#19 = .ok (.wrDtMul 3 2 7#3 5#4) := by decide
theorem test_decode_wrTl : decode 0x04AFF#19 = .ok (.wrTl 2 1 0x7F#7) := by decide
theorem test_decode_wrKsAr : decode 0x05CDF#19 = .ok (.wrKsAr 0 3 3#2 31#5) := by decide
theorem test_decode_wrDr : decode 0x169EA#19 = .ok (.wrDr 4 1 10#5) := by decide
theorem test_decode_wrSr : decode 0x07611#19 = .ok (.wrSr 2 2 17#5) := by decide
theorem test_decode_wrSlRr : decode 0x08CA3#19 = .ok (.wrSlRr 0 3 10#4 3#4) := by decide
theorem test_decode_wrFnumHi :
    decode 0x0A422#19 = .ok (.wrFnumHi 4#3 2#3) ∧ decode 0x1AFFF#19 = .ok (.wrFnumHi 7#3 7#3) := by decide
theorem test_decode_wrFnumLo : decode 0x1A201#19 = .ok (.wrFnumLo 5 1#8) := by decide
theorem test_decode_wrCh3FnumLo :
    decode 0x0A980#19 = .ok (.wrCh3FnumLo 1 0x80#8) ∧ decode 0x1AB7F#19 = .ok (.wrCh3FnumLo 0 0x7F#8) := by decide
theorem test_decode_wrAlgFb :
    decode 0x0B2FF#19 = .ok (.wrAlgFb 2 7#3 7#3) ∧ decode 0x0B12C#19 = .ok (.wrAlgFb 1 4#3 5#3) := by decide
theorem test_decode_wrPan :
    decode 0x1B480#19 = .ok (.wrPan 3 true false) ∧ decode 0x1B640#19 = .ok (.wrPan 5 false true) := by decide
theorem test_decode_sample : decode 0x20000#19 = .ok .sample ∧ decode 0x3FFFF#19 = .ok .sample := by decide
theorem test_decode_reset : decode 0x40000#19 = .ok .reset ∧ decode 0x5FFFF#19 = .ok .reset := by decide
theorem test_decode_ignore :
    decode 0x0900F#19 = .ok (.ignore 0#1 0x90#8 0x0F#8) ∧
    decode 0x0337F#19 = .ok (.ignore 0#1 0x33#8 0x7F#8) ∧
    decode 0x028F3#19 = .ok (.ignore 0#1 0x28#8 0xF3#8) := by decide
theorem test_decode_refuses_reserved_kind :
    decode 0x60000#19 = .error .reservedKind ∧ decode 0x7FFFF#19 = .error .reservedKind := by decide

/-- V-ENC-6: `write(0x3B4, 0x180)` is the word 0x1B480. -/
theorem test_hostWrite_masks : hostWrite 0x3B4 0x180 = 0x1B480#19 := by decide

/-- The pseudo-commands of R97, as the words of programs P1, P3 and P4 spell them. -/
theorem test_pseudo_commands :
    setFreq 3 4#3 617#11 = [0x1A422#19, 0x1A069#19] ∧ setFreq3 1 2#3 0x080#11 = [0x0AD10#19, 0x0A980#19] ∧
    key 3 1#4 = [0x02814#19] ∧ opReg 0x30 3 2 0x75#8 = [0x13475#19] := by decide

theorem test_decodeTableWord :
    decodeTableWord 19 0x13475 = some (.wrDtMul 3 2 7#3 5#4) ∧ decodeTableWord 19 0x60000 = none := by decide

/-! ## One step: the vectors of 95_test_vectors.md -/

/-- One command word, run right after reset with the device changed by `f`. -/
def after (f : Device → Device) (word : Nat) : Device :=
  match step ((State.reset.updateDev f).withFetchWord 19 word) with
  | .next t => t.dev
  | .fault _ => Device.reset
  | .refused _ => Device.reset

/-- V-REG-17. -/
theorem test_step_wrMode : (after id 0x127FF).ch3Mode = .csm := by decide
/-- V-REG-14. -/
theorem test_step_wrKey :
    ((after id 0x12836).op 5 0).egState = .attack ∧ ((after id 0x12836).op 5 1).keyon = true ∧
    ((after id 0x12836).op 5 2).keyon = false ∧ ((after id 0x12836).op 2 0).keyon = false := by decide
/-- V-KEY-4. -/
theorem test_step_wrKey_off :
    let d := after (·.updateOp 0 0 fun o => { o with keyon := true, egState := .sustain, env := 600#10 }) 0x02800
    (d.op 0 0).egState = .release ∧ (d.op 0 0).env = 600#10 ∧ (d.op 0 0).keyon = false := by decide
/-- V-REG-2. -/
theorem test_step_wrDtMul : ((after id 0x13475).op 3 2).det = 7#3 ∧ ((after id 0x13475).op 3 2).mul = 5#4 := by decide
/-- V-REG-4. -/
theorem test_step_wrTl : ((after id 0x04AFF).op 2 1).tl = 0x7F#7 := by decide
/-- V-REG-5. -/
theorem test_step_wrKsAr : ((after id 0x05CDF).op 0 3).ks = 3#2 ∧ ((after id 0x05CDF).op 0 3).ar = 31#5 := by decide
theorem test_step_wrDr : ((after id 0x169EA).op 4 1).dr = 10#5 ∧ ((after id 0x169EA).op 4 1).sr = 0#5 := by decide
theorem test_step_wrSr : ((after id 0x07611).op 2 2).sr = 17#5 ∧ ((after id 0x07611).op 2 2).dr = 0#5 := by decide
/-- V-REG-5. -/
theorem test_step_wrSlRr : ((after id 0x08CA3).op 0 3).sl = 10#4 ∧ ((after id 0x08CA3).op 0 3).rr = 3#4 := by decide
/-- V-REG-6. -/
theorem test_step_wrFnumHi : (after id 0x0A422).latch = 0x22#6 ∧ ((after id 0x0A422).chan 0).block = 0#3 := by decide
/-- V-REG-7. -/
theorem test_step_wrFnumLo :
    ((after (fun d => { d with latch := 0x22#6 }) 0x0A069).chan 0).fnum = 617#11 ∧
    ((after (fun d => { d with latch := 0x22#6 }) 0x0A069).chan 0).block = 4#3 := by decide
/-- V-REG-10. -/
theorem test_step_wrCh3FnumLo :
    (after (fun d => { d with latch := 0x3F#6 }) 0x1AB7F).ch3Fnum = #v[1919#11, 0#11, 0#11] ∧
    (after (fun d => { d with latch := 0x3F#6 }) 0x1AB7F).ch3Block = #v[7#3, 0#3, 0#3] := by decide
/-- V-REG-12. -/
theorem test_step_wrAlgFb : ((after id 0x0B2FF).chan 2).alg = 7#3 ∧ ((after id 0x0B2FF).chan 2).fb = 7#3 := by decide
/-- V-REG-13. -/
theorem test_step_wrPan :
    (after id 0x1B640).panL = #v[true, true, true, true, true, false] ∧
    (after id 0x1B640).panR = #v[true, true, true, true, true, true] := by decide
/-- V-RST-1, for the latch and the pan bits. -/
theorem test_step_reset :
    (after (fun d => { d with latch := 0x22#6, panL := Vector.replicate 6 false }) 0x40000).latch = 0#6 ∧
    (after (fun d => { d with latch := 0x22#6, panL := Vector.replicate 6 false }) 0x40000).panL =
      Vector.replicate 6 true := by decide
/-- V-REG-19. -/
theorem test_step_ignore : after id 0x0900F = Device.reset := by decide
/-- V-SMP-1: the tick of the third SAMPLE turns every operator OFF. -/
theorem test_step_sample_ticks :
    ((after id 0x20000).op 0 0).egState = .release ∧ (after id 0x20000).envDiv = 1 ∧
    ((after (fun d => { d with envDiv := 2 }) 0x20000).op 0 0).egState = .off ∧
    (after (fun d => { d with envDiv := 2 }) 0x20000).envDiv = 0 := by decide
/-- V-SMP-5, one SAMPLE of it: the phase of a silent operator advances by its increment. -/
theorem test_step_sample_phase :
    ((after (fun d => (d.updateChan 0 fun x => { x with fnum := 617#11, block := 4#3 }).updateOp 0 0
      fun o => { o with mul := 1#4 }) 0x20000).op 0 0).phase = 4936#20 := by decide
theorem test_step_refuses_reserved_kind :
    step (State.reset.withFetchWord 19 0x60000) = .refused .reservedKind := rfl

/-! ## The datapath: the vectors of 95_test_vectors.md -/

/-- An operator at a waveform index, with an attenuation and a level. -/
def opAt (index : Nat) (env : BitVec 10) (tl : BitVec 7) : Operator :=
  { Operator.reset with phase := BitVec.ofNat 20 (index * 1024), env := env, tl := tl }

/-- V-OP-1a, c, e, f, h, j. -/
theorem test_opOut_index :
    [0, 128, 256, 384, 512, 767].map (fun p => (opOut defaultConfig (opAt p 0#10 0#7) 0).toInt) =
      [25, 5792, 8168, 5760, -25, -8168] := by decide
/-- V-OP-9, V-OP-12, V-OP-13, V-OP-14, V-OP-16. -/
theorem test_opOut_attenuation :
    [opAt 255 1#10 0#7, opAt 255 0#10 1#7, opAt 255 831#10 0#7, opAt 255 832#10 0#7, opAt 255 0#10 104#7].map
      (fun o => (opOut defaultConfig o 0).toInt) = [8080, 7492, 1, 0, 0] := by decide
/-- V-OP-2, V-OP-3, V-OP-5. -/
theorem test_opOut_modulation :
    [-1, 1024, -768].map (fun m => (opOut defaultConfig (opAt 0 0#10 0#7) m).toInt) = [-25, 25, 8168] := by decide
/-- V-KC-3, V-KC-5, V-KC-7, V-KC-8. -/
theorem test_keycode :
    [(⟨0x380#11, 0#3⟩ : Frequency), ⟨0x400#11, 2#3⟩, ⟨0x480#11, 3#3⟩, ⟨0x7FF#11, 7#3⟩].map
      (fun f => (keycodeOf defaultConfig f).toNat) = [1, 10, 15, 31] := by decide
/-- V-PI-2, V-PI-5, V-PI-7, V-PI-8, V-PI-11. -/
theorem test_phaseInc :
    (phaseIncOf defaultConfig ⟨617#11, 4#3⟩ 0#3 0#4).toNat = 2468 ∧
    (phaseIncOf defaultConfig ⟨617#11, 4#3⟩ 5#3 1#4).toNat = 4934 ∧
    (phaseIncOf defaultConfig ⟨617#11, 4#3⟩ 7#3 2#4).toNat = 9856 ∧
    (phaseIncOf defaultConfig ⟨0#11, 0#3⟩ 7#3 1#4).toNat = 131070 ∧
    (phaseIncOf defaultConfig ⟨2047#11, 7#3⟩ 3#3 15#4).toNat = 1965450 := by decide
/-- V-RATE-3, V-RATE-5, V-RATE-9, V-RATE-10, V-RATE-16. -/
theorem test_rateOf :
    rateOf { Operator.reset with egState := .attack, ar := 1#5, ks := 3#2 } 31#5 = ⟨1#2, 1, 3⟩ ∧
    rateOf { Operator.reset with egState := .attack, ar := 22#5 } 0#5 = ⟨0#2, 1, 0⟩ ∧
    rateOf { Operator.reset with egState := .attack, ar := 30#5 } 0#5 = ⟨0#2, 8, 0⟩ ∧
    rateOf { Operator.reset with egState := .attack, ks := 3#2 } 31#5 = ⟨0#2, 0, 0⟩ ∧
    rateOf { Operator.reset with rr := 7#4, ks := 3#2 } 31#5 = ⟨1#2, 8, 0⟩ := by decide
/-- V-EG-5 tick 2, V-EG-7 tick 5, V-EG-11 tick 2, V-EG-12 tick 147. -/
theorem test_envelopeTick :
    (envelopeTick defaultConfig 16#5 { Operator.reset with
      egState := .attack, ar := 31#5, egClock := 1#32 }).env = 511#10 ∧
    (envelopeTick defaultConfig 16#5 { Operator.reset with
      egState := .decay, dr := 31#5, sl := 1#4, env := 24#10, egClock := 4#32 }).egState = .sustain ∧
    (envelopeTick defaultConfig 16#5 { Operator.reset with
      egState := .sustain, sr := 31#5, env := 1020#10, egClock := 1#32 }).env = 1023#10 ∧
    (envelopeTick defaultConfig 16#5 { Operator.reset with
      rr := 15#4, env := 1016#10, egClock := 146#32 }).egState = .off := by decide

/-- A channel whose four operators stand at index 255, at full level, with a delay cell of 8168 (V-ALG-3). -/
def fullChannel (alg : BitVec 3) : Channel :=
  { Channel.reset with alg := alg, algMem := 8168#32, ops := Vector.replicate 4 (opAt 255 0#10 0#7) }

/-- V-ALG-3, the channel outputs of the eight algorithms. -/
theorem test_channelOut :
    [0#3, 1#3, 2#3, 3#3, 4#3, 5#3, 6#3, 7#3].map (fun a => (channelOut defaultConfig (fullChannel a)).toInt) =
      [8080, 8080, 7996, 8080, 16296, 24444, 24484, 32672] := by decide
/-- V-ALG-3, the delay cell after each of the eight. -/
theorem test_delay_cell :
    [0#3, 1#3, 2#3, 3#3, 4#3, 5#3, 6#3, 7#3].map
      (fun a => (channelAfterOut defaultConfig (fullChannel a)).algMem.toInt) =
      [8148, 16336, 8168, 8148, 8168, 8168, 8168, 8168] := by decide
/-- V-FB-3 and V-FB-5: the feedback input is a floor, and the memories shift. -/
theorem test_feedback :
    feedbackInput { Channel.reset with fb := 7#3, fbMem1 := BitVec.ofInt 16 (-25) } = -7 ∧
    feedbackInput { Channel.reset with fb := 6#3, fbMem1 := 100#16, fbMem2 := BitVec.ofInt 16 (-300) } = -25 ∧
    (channelAfterOut defaultConfig { fullChannel 7#3 with fbMem2 := 5#16 }).fbMem1 = 5#16 := by decide
/-- V-SMP-3 and V-SMP-4 in part: the frame sums without a clamp, and each pan bit gates its side. -/
theorem test_frame :
    frameOf defaultConfig { Device.reset with ch := Vector.replicate 6 (fullChannel 7#3) } =
      ⟨196032#32, 196032#32⟩ ∧
    frameOf defaultConfig { Device.reset with
      ch := Vector.replicate 6 (fullChannel 7#3), panL := #v[true, true, true, false, false, false] } =
      ⟨98016#32, 196032#32⟩ := by decide

/-! ## Witnesses: concrete states and operands that meet the hypotheses of each obligation, clause by clause, at the edges of their ranges -/

/-- The state right after reset with some words delivered. -/
def fed (ws : List CommandWord) : State := State.reset.issue ws

/-- The state right after reset, with operator `op[0][0]` replaced and the divider about to wrap. -/
def withOp (o : Operator) : State :=
  State.reset.updateDev fun d => { d.updateOp 0 0 (fun _ => o) with envDiv := 2 }

/-- An operator whose note is held in a state. -/
def held (e : EgState) (env : BitVec 10) : Operator :=
  { Operator.reset with keyon := true, egState := e, env := env }

/-- An operator that is OFF, as R152 leaves it. -/
def offOp : Operator := { Operator.reset with egState := .off }

theorem witness_DecodeEncodeRoundTrip :
    (Instr.ignore 1#1 0xB8#8 0xFF#8).wellFormed = true ∧ (Instr.wrKey 5 0xF#4).wellFormed = true := by decide

theorem witness_DecodedCommandsAreWellFormed :
    decode 0x0A355#19 = .ok (.ignore 0#1 0xA3#8 0x55#8) ∧ decode 0x02800#19 = .ok (.wrKey 0 0#4) := by decide

theorem witness_DecoderAgreesWithOpcodeTable :
    ∃ a b, a ∈ priorityRows ∧ b ∈ priorityRows ∧ a.covers 0x0B6FF#19 = true ∧ b.covers 0x0B6FF#19 = true :=
  ⟨⟨"WR_PAN", ⟨0x6fc00#19, 0xb400#19⟩, [⟨0x6ff00#19, 0xb700#19⟩]⟩,
    ⟨"WR_PAN", ⟨0x6fc00#19, 0xb400#19⟩, [⟨0x6ff00#19, 0xb700#19⟩]⟩, by decide, by decide, by decide, by decide⟩

theorem witness_OnlyReservedKindIsRefused :
    (fed [0x60000#19, 0x20000#19]).commands = 0x60000#19 :: [0x20000#19] ∧
    (0x60000#19).extractLsb' 17 2 = 3#2 := by decide

theorem witness_IgnoredWritesAreThoseListed :
    ignoredWrite 0x26#8 0#8 = true ∧ ignoredWrite 0x27#8 0#8 = false ∧
    ignoredWrite 0x28#8 3#8 = true ∧ ignoredWrite 0x28#8 2#8 = false ∧
    ignoredWrite 0x8F#8 0#8 = true ∧ ignoredWrite 0x8E#8 0#8 = false := by decide

theorem witness_DataBytesCountOnlyByNamedBits :
    ignoredWrite 0x28#8 0xF8#8 = false ∧ ignoredWrite 0x28#8 0xF0#8 = false ∧
    ignoredWrite 0xB6#8 0#8 = false ∧ ignoredWrite 0xB6#8 0xFF#8 = false := by decide

theorem witness_BankIsIgnoredForDeviceRegisters :
    ignoredWrite 0x27#8 0#8 = false ∧ ignoredWrite 0xA2#8 0#8 = false ∧ ignoredWrite 0xA4#8 0#8 = false ∧
    ignoredWrite 0xAF#8 0#8 = false ∧ ignoredWrite 0xB0#8 0#8 = false := by decide

theorem witness_HostWritesAreMaskedAndNeverFail :
    ignoredWrite (BitVec.ofNat 8 (0x3B8 % 256)) (BitVec.ofNat 8 (0x180 % 256)) = true := by decide

theorem witness_PseudoCommandsExpandToTheirCommands : 3#4 ≤ 3#4 ∧ 3#4 ≤ 8#4 ∧ 8#4 ≤ 8#4 := by decide

theorem witness_StepRunsTheDecodedCommand :
    (fed [0x12836#19, 0x20000#19]).commands = 0x12836#19 :: [0x20000#19] ∧
    decode 0x12836#19 = .ok (.wrKey 5 3#4) := by decide

theorem witness_NoCommandRaisesAnException :
    ignoredWrite 0x00#8 0x00#8 = true ∧ ignoredWrite 0xFF#8 0xFF#8 = true := by decide

theorem witness_OnlySampleEmitsAFrame :
    (∃ t, exec .sample State.reset = .next t) ∧ ∃ t, exec (.wrPan 5 true false) State.reset = .next t :=
  ⟨⟨_, rfl⟩, ⟨_, rfl⟩⟩

theorem witness_SampleReadsOnlyTheDevice :
    (fed [0x40000#19]).dev = State.reset.dev ∧ fed [0x40000#19] ≠ State.reset := ⟨rfl, by decide⟩

theorem witness_FrequencyWritesUseTheLatch : (5 : ChanIx) ≠ 0 := by decide

theorem witness_AlgorithmWriteSetsAlgAndFeedback : 0#2 ≠ 3#2 ∧ 2#2 ≠ 3#2 := by decide

theorem witness_HighThenLowAppliesThePair :
    ∃ t u v, exec (.wrFnumHi 4#3 2#3) State.reset = .next t ∧ exec (.wrFnumLo 0 0x69#8) t = .next u ∧
      exec (.wrFnumLo 5 0#8) u = .next v :=
  ⟨_, _, _, rfl, rfl, rfl⟩

theorem witness_EnvChangesOnlyByTickAndReset :
    (∃ t, exec .sample (withOp (held .decay 0#10)) = .next t) ∧ (withOp (held .decay 0#10)).dev.envDiv = 2 ∧
    (∃ t, exec (.wrTl 0 0 127#7) State.reset = .next t) ∧ Operator.reset.env = 1023#10 :=
  ⟨⟨_, rfl⟩, rfl, ⟨_, rfl⟩, rfl⟩

theorem witness_OffIsLeftOnlyByKeyOnOrReset :
    (∃ t, exec .sample (withOp offOp) = .next t) ∧ ((withOp offOp).dev.op 0 0).egState = .off ∧
    keyBitOf .sample 0 0 ≠ some true ∧ keyBitOf (.wrKey 0 0xE#4) 0 0 ≠ some true ∧
    offOp.Inv ∧ offOp.egState = .off :=
  ⟨⟨_, rfl⟩, by decide, by decide, by decide, ⟨rfl, fun _ => rfl⟩, rfl⟩

theorem witness_KeyonIsWrittenOnlyByKeysAndReset :
    ((withOp (held .sustain 7#10)).dev.op 0 0).Inv ∧
    (∃ t, exec (.wrKey 0 0#4) (withOp (held .sustain 7#10)) = .next t) ∧
    ∃ t, exec .reset (withOp (held .sustain 7#10)) = .next t :=
  ⟨by unfold Operator.Inv; decide, ⟨_, rfl⟩, ⟨_, rfl⟩⟩

theorem witness_ToneParametersAreWrittenOnlyByTheirCommands :
    (∃ t, exec (.wrSlRr 5 3 15#4 15#4) State.reset = .next t) ∧ ∃ t, exec (.wrDtMul 0 0 7#3 15#4) State.reset = .next t :=
  ⟨⟨_, rfl⟩, ⟨_, rfl⟩⟩

theorem witness_FeedbackMemoriesHoldTheLastTwoOutputs :
    (∃ t, exec .sample (withOp (held .decay 0#10)) = .next t) ∧ ∃ t, exec (.wrAlgFb 0 7#3 7#3) State.reset = .next t :=
  ⟨⟨_, rfl⟩, ⟨_, rfl⟩⟩

theorem witness_EnvelopeDividerCountsSamples :
    (∃ t, exec .sample (withOp offOp) = .next t) ∧ (withOp offOp).dev.envDiv = 2 ∧
    (∃ t, exec .sample State.reset = .next t) ∧ State.reset.dev.envDiv ≠ 2 :=
  ⟨⟨_, rfl⟩, rfl, ⟨_, rfl⟩, by decide⟩

theorem witness_PanBitsGateEachChannel : ∃ t, exec (.wrPan 5 false true) State.reset = .next t := ⟨_, rfl⟩

theorem witness_ChannelParametersAreWrittenOnlyByTheirCommands :
    (∃ t, exec (.wrFnumLo 5 1#8) State.reset = .next t) ∧ (∃ t, exec (.wrAlgFb 5 1#3 0#3) State.reset = .next t) ∧
    Channel.reset.fb = 0#3 := ⟨⟨_, rfl⟩, ⟨_, rfl⟩, rfl⟩

theorem witness_OverridesDriveChannelTwoInSpecialMode :
    (after id 0x02740).ch3Mode = .special ∧ Device.reset.ch3Mode = .normal ∧ (after id 0x027C0).ch3Mode = .csm ∧
    ∃ t, exec (.wrCh3FnumLo 2 0xFF#8) State.reset = .next t :=
  ⟨by decide, rfl, by decide, ⟨_, rfl⟩⟩

theorem witness_WritesLeaveTheRunningStateAlone :
    (Instr.wrKey 0 0#4).isWrite = true ∧ keyBitOf (.wrKey 0 0#4) 0 3 = some false ∧
    keyBitOf (.wrKey 0 0#4) 1 3 = none ∧ ∃ t, exec (.wrKey 0 0#4) (withOp (held .attack 9#10)) = .next t :=
  ⟨rfl, by decide, by decide, ⟨_, rfl⟩⟩

theorem witness_RepeatedWritesAreNoOps :
    (∃ t, exec (.wrKey 0 0xF#4) State.reset = .next t) ∧ ∃ t, exec .reset (withOp offOp) = .next t :=
  ⟨⟨_, rfl⟩, ⟨_, rfl⟩⟩

theorem witness_KeyOffThenKeyOnRestartsTheNote :
    ((withOp (held .sustain 600#10)).dev.op 0 0).Inv ∧ (0xE#4).getLsbD 0 = false ∧ (1#4).getLsbD 0 = true ∧
    (∃ t u, exec (.wrKey 0 0xE#4) (withOp (held .sustain 600#10)) = .next t ∧ exec (.wrKey 0 1#4) t = .next u) ∧
    ((withOp (held .sustain 600#10)).dev.op 0 0).keyon = true :=
  ⟨by unfold Operator.Inv; decide, by decide, by decide, ⟨_, _, rfl, rfl⟩, by decide⟩

theorem witness_RatesFollowStageRateAndKeyScale :
    stageRate (held .attack 0#10) = 0 ∧ stageRate offOp = 0 ∧ stageRate Operator.reset ≠ 0 := by decide

/-- Every change of R140 from a state that meets the invariant: by a SAMPLE, by a key-on, by a key-off. -/
theorem witness_EnvelopeStatesMoveAsTheRuleSays :
    [(held .attack 0#10, .sample), (held .decay 0#10, .sample), (Operator.reset, .sample),
     (Operator.reset, .wrKey 0 1#4), (offOp, .wrKey 0 1#4), (held .attack 5#10, .wrKey 0 0#4),
     (held .decay 5#10, .wrKey 0 0#4), (held .sustain 5#10, .wrKey 0 0#4)].map
      (fun (o, i) => (decide (o.keyon = o.egState.held ∧ (o.egState = .off → o.env = 1023#10)),
        match exec i (withOp o) with
        | .next t => (o.egState, (t.dev.op 0 0).egState)
        | _ => (o.egState, o.egState))) =
      [(true, .attack, .decay), (true, .decay, .sustain), (true, .release, .off), (true, .release, .attack),
       (true, .off, .attack), (true, .attack, .release), (true, .decay, .release), (true, .sustain, .release)] := by
  decide

theorem witness_SustainTickAddsAndStays : (held .sustain 1023#10).egState = .sustain := rfl

theorem witness_DecayAndReleaseTicksAddAndEnd :
    (held .decay 0#10).egState = .decay ∧ Operator.reset.egState = .release ∧
    (0#32).toNat % 2 ^ (rateOf Operator.reset 0#5).shift = 0 ∧
    ¬ (1#32).toNat % 2 ^ (rateOf { Operator.reset with egClock := 1#32 } 0#5).shift = 0 := by decide

/-- The gate is open at clock 0 and closed at clock 1 with attack rate 1. -/
theorem witness_AttackUpdateFalls :
    (held .attack 1#10).egState = .attack ∧ 0 < (held .attack 1#10).env.toNat ∧
    (0#32).toNat % 2 ^ (rateOf { held .attack 1#10 with ar := 1#5 } 0#5).shift = 0 ∧
    ¬ (1#32).toNat % 2 ^ (rateOf { held .attack 1#10 with ar := 1#5, egClock := 1#32 } 0#5).shift = 0 := by decide

/-- Effective rates 44, 46 and 48: `g` is 11, 11 and 12 (V-RATE-5, V-RATE-7, V-RATE-8). -/
theorem witness_RateTripleSplitsAtTwelve :
    stageRate { held .attack 0#10 with ar := 22#5 } ≠ 0 ∧ min (2 * 22 + (0#5).toNat >>> 3) 63 / 4 = 11 ∧
    stageRate { held .attack 0#10 with ar := 24#5 } ≠ 0 ∧ min (2 * 24 + (0#5).toNat >>> 3) 63 / 4 = 12 ∧
    (rateOf { held .attack 0#10 with ar := 23#5 } 0#5).shift = 0 ∧
    (rateOf { held .attack 0#10 with ar := 24#5 } 0#5).mul = 1 := by decide

theorem witness_EnvelopeIsMonotone :
    (held .attack 1023#10).egState = .attack ∧ offOp.egState ≠ .attack := by decide

theorem witness_FirstTickAfterResetTurnsOff :
    (State.reset.dev.op 5 3).egState = .release ∧ (State.reset.dev.op 5 3).env = 1023#10 ∧
    (State.reset.dev.op 5 3).egClock = 0#32 := by decide

theorem witness_ReleaseAlwaysReachesOff : Operator.reset.egState = .release ∧ 2 ^ 22 ≤ 4194304 := by decide

theorem witness_FullRateAttackTakesTwelveTicks :
    let o : Operator := { held .attack 1023#10 with ar := 31#5 }
    o.egState = .attack ∧ o.env = 1023#10 ∧ o.egClock = 0#32 ∧ o.ar ≠ 0#5 ∧ effectiveRate o 16#5 = 63 := by decide

theorem witness_OnlyFourteenClockBitsAreRead :
    (0xFFFFC000#32).extractLsb' 0 14 = Operator.reset.egClock.extractLsb' 0 14 := by decide

theorem witness_AttenuatedOperatorIsSilent :
    (opAt 255 1023#10 0#7).env = 1023#10 ∧
    3328 ≤ 4 * (opAt 255 832#10 0#7).env.toNat + 32 * (opAt 255 832#10 0#7).tl.toNat ∧
    104 ≤ (opAt 255 0#10 104#7).tl.toNat := by decide

theorem witness_AlgorithmsAreTheSummaryTable :
    [0#3, 1#3, 2#3, 3#3, 4#3, 5#3, 6#3, 7#3].all (fun a =>
      (fullChannel a).alg == a &&
      ((clockEnvelopes defaultConfig { Device.reset with ch := Vector.replicate 6 (fullChannel a) }).chan 5).alg == a) = true ∧
    ∃ t, exec .sample State.reset = .next t := ⟨by decide, ⟨_, rfl⟩⟩

/-- A channel as algorithm 1 leaves it, then set to algorithm 3: its delay cell holds 16336 (V-ALG-3, log entry 13). -/
def mixedChannel : Channel := { fullChannel 3#3 with algMem := 16336#32 }

theorem witness_ChannelOutputNeverWraps :
    mixedChannel.Inv ∧ mixedChannel.alg = 3#3 ∧ (slotInputs defaultConfig mixedChannel).m3 = 12252 ∧
    (fullChannel 3#3).Inv ∧ withinOutput (fullChannel 3#3).algMem.toInt ∧ (fullChannel 1#3).alg ≠ 3#3 := by
  simp only [Channel.Inv, withinOutput, withinDelay]
  decide

/-- Two devices that differ in channel 0 and agree on channels 2 and 5, on the divider and on the channel-3 fields. -/
theorem witness_ChannelsDoNotReadEachOther :
    let e := (withOp offOp).dev
    let d := { Device.reset with envDiv := 2 }
    e.chan 5 = d.chan 5 ∧ e.chan 2 = d.chan 2 ∧ e.envDiv = d.envDiv ∧ e.chan 0 ≠ d.chan 0 ∧
    e.ch3Mode = d.ch3Mode ∧ e.ch3Fnum = d.ch3Fnum ∧ e.ch3Block = d.ch3Block := by decide

theorem witness_StepKeepsTheInvariant :
    (fed [0x20000#19]).Inv ∧ ∃ t, step (fed [0x20000#19]) = .next t :=
  ⟨by
    simp only [State.Inv, Device.Inv, Operator.Inv, Channel.Inv, Frame.Bounded, withinOutput, withinDelay, withinFrame]
    decide, ⟨_, rfl⟩⟩

theorem witness_SilentBlockGeneratesZeros : Device.reset.Silent := by
  unfold Device.Silent Operator.Silent; decide

theorem witness_SilenceIsKeptWithoutKeyOn :
    State.reset.dev.Silent ∧ (∀ c sl, keyBitOf .sample c sl ≠ some true) ∧
    (∀ c sl, keyBitOf (.wrKey 5 0#4) c sl ≠ some true) ∧ (∃ t, exec .sample State.reset = .next t) ∧
    ∃ t, exec (.wrKey 5 0#4) State.reset = .next t :=
  ⟨witness_SilentBlockGeneratesZeros, by decide, by decide, ⟨_, rfl⟩, ⟨_, rfl⟩⟩

theorem witness_GenRunsTheBufferForms :
    (fed [0x20000#19, 0x20000#19, 0x40000#19]).commands = gen 2 ++ [0x40000#19] := by decide

theorem witness_LegalSequencesRunToTheirEnd :
    (fed [0x00000#19, 0x5FFFF#19, 0x60000#19]).commands = [0x00000#19, 0x5FFFF#19] ++ [0x60000#19] ∧
    ∀ w ∈ [0x00000#19, 0x5FFFF#19], w.extractLsb' 17 2 ≠ 3#2 := ⟨by decide, by simp⟩

end Sys2Proof.Tests
end

section
/-! PROOFS. Who writes the state of 10_state.md, command by command: what a command other than RESET does to an operator, to a channel's
memories and parameters, and to the device fields, each said once; then the obligations that follow (O25 to O27, O29, O31 to O33). -/

namespace Sys2Proof.Machine

/-! ### The key events, the tick and the output of one operator -/

section OperatorRules
variable (cfg : Config) (kc : BitVec 5) (o : Operator)

@[simp] theorem keyOn_env : (keyOn o).env = o.env := by
  unfold keyOn; split <;> rfl

@[simp] theorem keyOff_env : (keyOff o).env = o.env := by
  unfold keyOff; split <;> rfl

@[simp] theorem keyOn_keyon : (keyOn o).keyon = true := by
  unfold keyOn; split
  · assumption
  · rfl

theorem keyOff_of_off {o : Operator} (h : o.egState = .off) : keyOff o = o := by
  simp [keyOff, h]

/-- Key-off is ignored only where the note is not held: an OFF operator that meets R30 has `keyon` false already. -/
theorem keyOff_keyon_of_inv {o : Operator} (hi : o.Inv) : (keyOff o).keyon = false := by
  obtain ⟨hheld, -⟩ := hi
  by_cases hoff : o.egState = .off
  · rw [keyOff_of_off hoff, hheld, hoff]; rfl
  · cases hk : o.keyon <;> simp [keyOff, hk, hoff]

/-- R153: a tick in OFF advances the clock and does nothing else, whether or not its gate is open. -/
theorem envelopeTick_of_off {o : Operator} (h : o.egState = .off) :
    envelopeTick cfg kc o = advanceClock o := by
  simp [envelopeTick, gatedUpdate, envUpdate, h]

@[simp] theorem envelopeTick_keyon : (envelopeTick cfg kc o).keyon = o.keyon := by
  rw [envelopeTick_eq]

/-- R124: an operator whose level alone reaches the shift of 13 outputs 0, whatever the tables and the modulation. -/
theorem opOut_of_level {o : Operator} (m : Int) (h : 3328 ≤ 4 * o.env.toNat + 32 * o.tl.toNat) :
    opOut cfg o m = 0#16 := by
  apply BitVec.eq_of_toInt_eq
  rw [opOut_toInt, magnitude_of_silent]
  · simp
  · unfold attenuation; omega

theorem opOut_of_env_silent {o : Operator} (m : Int) (h : o.env = 1023#10) : opOut cfg o m = 0#16 :=
  opOut_of_level cfg m (by rw [h, BitVec.toNat_ofNat]; omega)

end OperatorRules

/-! ### A relation kept by a write to one place holds at every place -/

theorem Operator.sameRunning_refl (o : Operator) : o.sameRunning o := ⟨rfl, rfl, rfl, rfl, rfl⟩

theorem Channel.sameMemories_refl (x : Channel) : x.sameMemories x := ⟨rfl, rfl, rfl⟩

theorem Channel.sameParameters_refl (x : Channel) : x.sameParameters x := ⟨rfl, rfl, rfl, rfl⟩

theorem Device.chan_updateChan_rel {R : Channel → Channel → Prop} (hrefl : ∀ x, R x x) {d : Device} {c : ChanIx}
    {f : Channel → Channel} (hf : R (d.chan c) (f (d.chan c))) (c' : ChanIx) :
    R (d.chan c') ((d.updateChan c f).chan c') := by
  rw [Device.chan_updateChan]
  split
  case isTrue hc => obtain rfl := hc; exact hf
  case isFalse => exact hrefl _

theorem Device.op_updateOp_rel {R : Operator → Operator → Prop} (hrefl : ∀ o, R o o) {d : Device} {c : ChanIx}
    {sl : Slot} {g : Operator → Operator} (hg : R (d.op c sl) (g (d.op c sl))) (c' : ChanIx) (sl' : Slot) :
    R (d.op c' sl') ((d.updateOp c sl g).op c' sl') := by
  rw [Device.op_updateOp]
  split
  case isTrue hop => obtain ⟨rfl, rfl⟩ := hop; exact hg
  case isFalse => exact hrefl _

/-! ### What one command does to one place of the state -/

section CommandRules
variable {i : Instr} {s t : State}

/-- What a command other than RESET does to an operator: it leaves its running state (R225), keys it by its key bit (R213),
or is the SAMPLE that ticks it where the divider wraps and advances its phase (R250). -/
theorem op_exec_cases (c : ChanIx) (sl : Slot) (h : exec i s = .next t) (hr : i ≠ .reset) :
    (keyBitOf i c sl = none ∧ (s.dev.op c sl).sameRunning (t.dev.op c sl)) ∨
    (∃ on, keyBitOf i c sl = some on ∧
      t.dev.op c sl = if on then keyOn (s.dev.op c sl) else keyOff (s.dev.op c sl)) ∨
    (i = .sample ∧ t.dev.op c sl = advancePhase (phaseInc defaultConfig s.dev c sl)
      (if s.dev.envDiv = 2 then envelopeTick defaultConfig (keycode defaultConfig s.dev c sl) (s.dev.op c sl)
        else s.dev.op c sl)) := by
  cases i with
  | wrKey c' keys =>
    cases h
    by_cases hc : c' = c
    · subst hc
      exact .inr (.inl ⟨keys.getLsbD sl.val, by simp [keyBitOf], by simp [Device.op, keySlots]⟩)
    · exact .inl ⟨by simp [keyBitOf, hc],
        by simp [Device.op, Device.chan_updateChan_of_ne _ _ (Ne.symm hc), Operator.sameRunning_refl]⟩
  | wrDtMul | wrTl | wrKsAr | wrDr | wrSr | wrSlRr =>
    cases h
    exact .inl ⟨rfl, Device.op_updateOp_rel Operator.sameRunning_refl (Operator.sameRunning_refl _) c sl⟩
  | wrFnumLo | wrAlgFb =>
    cases h
    exact .inl ⟨rfl, Device.chan_updateChan_rel (R := fun x y => (x.op sl).sameRunning (y.op sl))
      (fun _ => Operator.sameRunning_refl _) (Operator.sameRunning_refl _) c⟩
  | wrMode | wrFnumHi | wrCh3FnumLo | wrPan | ignore =>
    cases h
    exact .inl ⟨rfl, Operator.sameRunning_refl _⟩
  | sample =>
    cases h
    exact .inr (.inr ⟨rfl, op_sampleDevice defaultConfig s.dev c sl⟩)
  | reset => exact absurd rfl hr

/-- No register write changes a memory (R33, R195). -/
theorem sameMemories_exec (c : ChanIx) (h : exec i s = .next t) (hr : i ≠ .reset) (hs : i ≠ .sample) :
    (s.dev.chan c).sameMemories (t.dev.chan c) := by
  cases i with
  | wrKey | wrDtMul | wrTl | wrKsAr | wrDr | wrSr | wrSlRr | wrFnumLo | wrAlgFb =>
    cases h
    exact Device.chan_updateChan_rel Channel.sameMemories_refl (Channel.sameMemories_refl _) c
  | wrMode | wrFnumHi | wrCh3FnumLo | wrPan | ignore =>
    cases h
    exact Channel.sameMemories_refl _
  | sample => exact absurd rfl hs
  | reset => exact absurd rfl hr

/-- The parameters of a channel after a command other than RESET: as before, but for its WR_FNUM_LO and its WR_ALG_FB (R35). -/
theorem parameters_exec_cases (c : ChanIx) (h : exec i s = .next t) (hr : i ≠ .reset) :
    (s.dev.chan c).sameParameters (t.dev.chan c) ∨
    (∃ v, i = .wrFnumLo c v ∧ t.dev.chan c = { s.dev.chan c with
      fnum := latchedFnum s.dev.latch v, block := latchedBlock s.dev.latch }) ∨
    (∃ alg fb, i = .wrAlgFb c alg fb ∧ t.dev.chan c = { s.dev.chan c with alg := alg, fb := fb }) := by
  cases i with
  | wrFnumLo c' v =>
    cases h
    by_cases hc : c = c'
    · subst hc
      exact .inr (.inl ⟨v, rfl, Device.chan_updateChan_self ..⟩)
    · exact .inl (by simp [Device.chan_updateChan_of_ne _ _ hc, Channel.sameParameters_refl])
  | wrAlgFb c' alg fb =>
    cases h
    by_cases hc : c = c'
    · subst hc
      exact .inr (.inr ⟨alg, fb, rfl, Device.chan_updateChan_self ..⟩)
    · exact .inl (by simp [Device.chan_updateChan_of_ne _ _ hc, Channel.sameParameters_refl])
  | wrKey | wrDtMul | wrTl | wrKsAr | wrDr | wrSr | wrSlRr =>
    cases h
    exact .inl (Device.chan_updateChan_rel Channel.sameParameters_refl (Channel.sameParameters_refl _) c)
  | wrMode | wrFnumHi | wrCh3FnumLo | wrPan | ignore =>
    cases h
    exact .inl (Channel.sameParameters_refl _)
  | sample =>
    cases h
    refine .inl ?_
    simp only [chan_sampleDevice, chan_clockEnvelopes]
    split <;> exact ⟨rfl, rfl, rfl, rfl⟩
  | reset => exact absurd rfl hr

/-- The pan bits after a command other than RESET: as before, but for a WR_PAN (R40). -/
theorem pan_exec_cases (h : exec i s = .next t) (hr : i ≠ .reset) :
    (t.dev.panL = s.dev.panL ∧ t.dev.panR = s.dev.panR) ∨
    (∃ c left right, i = .wrPan c left right ∧
      t.dev.panL = s.dev.panL.set c left ∧ t.dev.panR = s.dev.panR.set c right) := by
  cases i with
  | wrPan c left right =>
    cases h
    exact .inr ⟨c, left, right, rfl, rfl, rfl⟩
  | sample =>
    cases h
    exact .inl ⟨sampleDevice_panL .., sampleDevice_panR ..⟩
  | reset => exact absurd rfl hr
  | wrMode | wrKey | wrDtMul | wrTl | wrKsAr | wrDr | wrSr | wrSlRr | wrFnumHi | wrFnumLo | wrCh3FnumLo | wrAlgFb
  | ignore =>
    cases h
    exact .inl ⟨rfl, rfl⟩

/-- The channel-3 fields after a command other than RESET: as before, but for the mode of a WR_MODE and one override of a
WR_CH3_FNUM_LO (R38). -/
theorem ch3_exec_cases (h : exec i s = .next t) (hr : i ≠ .reset) :
    (t.dev.ch3Mode = s.dev.ch3Mode ∨ ∃ mode, i = .wrMode mode) ∧
    ((t.dev.ch3Fnum = s.dev.ch3Fnum ∧ t.dev.ch3Block = s.dev.ch3Block) ∨
      ∃ k v, i = .wrCh3FnumLo k v ∧
        t.dev.ch3Fnum = s.dev.ch3Fnum.set k (latchedFnum s.dev.latch v) ∧
        t.dev.ch3Block = s.dev.ch3Block.set k (latchedBlock s.dev.latch)) := by
  cases i with
  | wrMode mode =>
    cases h
    exact ⟨.inr ⟨mode, rfl⟩, .inl ⟨rfl, rfl⟩⟩
  | wrCh3FnumLo k v =>
    cases h
    exact ⟨.inl rfl, .inr ⟨k, v, rfl, rfl, rfl⟩⟩
  | sample =>
    cases h
    exact ⟨.inl (sampleDevice_ch3Mode ..), .inl ⟨sampleDevice_ch3Fnum .., sampleDevice_ch3Block ..⟩⟩
  | reset => exact absurd rfl hr
  | wrKey | wrDtMul | wrTl | wrKsAr | wrDr | wrSr | wrSlRr | wrFnumHi | wrFnumLo | wrAlgFb | wrPan | ignore =>
    cases h
    exact ⟨.inl rfl, .inl ⟨rfl, rfl⟩⟩

end CommandRules

/-! ### The feedback input, the effective frequency and the frame -/

section SampleRules
variable (cfg : Config) (d : Device)

/-- The envelope clock writes no memory and no parameter, so the feedback input stays (R181, R251). -/
@[simp] theorem feedbackInput_clockEnvelopes (c : ChanIx) :
    feedbackInput ((clockEnvelopes cfg d).chan c) = feedbackInput (d.chan c) := by
  rw [chan_clockEnvelopes]
  split <;> rfl

theorem effFreq_override {d : Device} (k : OverrideIx) (h : d.ch3Mode = .special) :
    effFreq d 2 k.castSucc = ⟨d.ch3Fnum[k], d.ch3Block[k]⟩ :=
  dif_pos ⟨rfl, h, k.isLt⟩

theorem effFreq_ownPair {d : Device} {c : ChanIx} {sl : Slot} (h : c ≠ 2 ∨ sl = 3 ∨ d.ch3Mode ≠ .special) :
    effFreq d c sl = ⟨(d.chan c).fnum, (d.chan c).block⟩ := by
  refine dif_neg ?_
  rintro ⟨hc, hmode, hsl⟩
  obtain h | rfl | h := h
  · exact h hc
  · exact absurd hsl (by decide)
  · exact h hmode

theorem wrap32_toInt {v : Int} (hlo : -2 ^ 31 ≤ v) (hhi : v < 2 ^ 31) : (wrap32 v).toInt = v :=
  BitVec.toInt_ofInt_eq_self (by decide) hlo hhi

/-- The loop of R253 is the sum over the six channels of their gated outputs. -/
theorem panSum_eq_sum (pan : ChanIx → Bool) (y : ChanIx → S16) :
    panSum pan y = ∑ c, if pan c then (y c).toInt else 0 := by
  have hadd : ∀ (acc : Int) c, (if pan c then acc + (y c).toInt else acc) =
      acc + if pan c then (y c).toInt else 0 := by
    intro acc c; split <;> omega
  simp [panSum, channelOrder, hadd, Fin.sum_univ_six]

/-- Six sixteen-bit outputs stay far inside thirty-two bits, whatever the tables (R253). -/
theorem wrap32_panSum_toInt (pan : ChanIx → Bool) (y : ChanIx → S16) :
    (wrap32 (panSum pan y)).toInt = ∑ c, if pan c then (y c).toInt else 0 := by
  have hterm : ∀ c, -32768 ≤ (if pan c then (y c).toInt else 0) ∧ (if pan c then (y c).toInt else 0) ≤ 32767 := by
    intro c
    have hlo := BitVec.le_toInt (y c)
    have hhi := BitVec.toInt_lt (x := y c)
    split <;> omega
  have hlo := Finset.card_nsmul_le_sum Finset.univ _ _ fun c _ => (hterm c).1
  have hhi := Finset.sum_le_card_nsmul Finset.univ _ _ fun c _ => (hterm c).2
  simp only [Finset.card_univ, Fintype.card_fin, nsmul_eq_mul] at hlo hhi
  rw [panSum_eq_sum, wrap32_toInt] <;> omega

end SampleRules

/-! ### The obligations -/

/-- Settles O25: key events and phase advances write no attenuation; at 1023 the level alone passes the shift of 13. -/
theorem envChangesOnlyByTickAndReset : Obligations.EnvChangesOnlyByTickAndReset := by
  refine ⟨fun i s t c sl h hr => ?_, fun cfg q env tl => ?_, fun cfg o m => opOut_of_env_silent cfg m⟩
  · obtain ⟨-, -, henv, -⟩ | ⟨on, -, hop⟩ | ⟨rfl, hop⟩ := op_exec_cases c sl h hr
    · exact .inl henv
    · exact .inl (by rw [hop]; split <;> simp)
    · rw [hop]
      split
      · exact .inr ⟨rfl, rfl⟩
      · exact .inl rfl
  · simp only [attenuation, BitVec.toNat_ofNat]
    omega

/-- Settles O26: key-off is ignored in OFF, and a tick in OFF is its clock advance. -/
theorem offIsLeftOnlyByKeyOnOrReset : Obligations.OffIsLeftOnlyByKeyOnOrReset := by
  refine ⟨fun i s t c sl h hoff hr hkey => ?_, fun cfg kc o => envelopeTick_of_off cfg kc,
    fun cfg o m hi hoff => opOut_of_env_silent cfg m (hi.2 hoff)⟩
  obtain ⟨-, -, henv, hstate, -⟩ | ⟨on, hon, hop⟩ | ⟨rfl, hop⟩ := op_exec_cases c sl h hr
  · exact ⟨hstate.trans hoff, henv⟩
  · cases on with
    | true => exact absurd hon hkey
    | false => simp [hop, keyOff_of_off hoff, hoff]
  · rw [hop, envelopeTick_of_off _ _ hoff]
    split <;> simp [hoff]

/-- Settles O27, by the three things a command can do to an operator. -/
theorem keyonIsWrittenOnlyByKeysAndReset : Obligations.KeyonIsWrittenOnlyByKeysAndReset := by
  intro i s t c sl hi h
  split
  case isTrue hr =>
    subst hr
    cases h
    simp [Device.reset, Device.op, Device.chan, Channel.op, Channel.reset, Operator.reset]
  case isFalse hr =>
    obtain ⟨hnone, -, -, -, -, hkeyon⟩ | ⟨on, hon, hop⟩ | ⟨rfl, hop⟩ := op_exec_cases c sl h hr
    · simp [hnone, hkeyon]
    · cases on <;> simp [hon, hop, keyOff_keyon_of_inv hi]
    · rw [hop]
      split <;> simp [keyBitOf]

/-- Settles O29: a register write keeps the memories, and SAMPLE shifts them. -/
theorem feedbackMemoriesHoldTheLastTwoOutputs : Obligations.FeedbackMemoriesHoldTheLastTwoOutputs := by
  refine fun i s t c h hr => ⟨fun hs => ?_, fun hs => ?_⟩
  · obtain ⟨hmem1, hmem2, -⟩ := sameMemories_exec c h hr hs
    exact ⟨hmem1, hmem2⟩
  · subst hs
    cases h
    constructor
    · simp only [chan_sampleDevice, Channel.mapOps_fbMem1, channelAfterOut_fbMem1, chan_clockEnvelopes]
      split <;> rfl
    · simp only [chan_sampleDevice, Channel.mapOps_fbMem2, channelAfterOut_fbMem2, slotZeroOut,
        feedbackInput_clockEnvelopes, Device.op]

/-- Settles O31: the two sums never reach the wrap of a frame value, and only WR_PAN writes a bit. -/
theorem panBitsGateEachChannel : Obligations.PanBitsGateEachChannel := by
  refine ⟨fun cfg d => ⟨?_, ?_⟩, fun i s t c h hr => ?_⟩
  · simp only [sampleFrame, frameOf, wrap32_panSum_toInt, clockEnvelopes_panL]
  · simp only [sampleFrame, frameOf, wrap32_panSum_toInt, clockEnvelopes_panR]
  · obtain ⟨hleft, hright⟩ | ⟨c', left, right, rfl, hleft, hright⟩ := pan_exec_cases h hr
    · exact .inl ⟨by rw [hleft], by rw [hright]⟩
    · by_cases hc : c' = c
      · subst hc
        simp [hleft, hright]
      · have hval : c'.val ≠ c.val := Fin.val_ne_of_ne hc
        exact .inl (by simp [hleft, hright, Vector.getElem_set_ne _ _ hval])

/-- Settles O32: WR_FNUM_LO keeps `alg` and `fb`, WR_ALG_FB keeps `fnum` and `block`, and no other command writes one. -/
theorem channelParametersAreWrittenOnlyByTheirCommands :
    Obligations.ChannelParametersAreWrittenOnlyByTheirCommands := by
  refine ⟨fun i s t c h hr => ?_, fun x hfb => if_pos hfb⟩
  obtain ⟨halg, hfb, hblock, hfnum⟩ | ⟨v, rfl, hchan⟩ | ⟨alg, fb, rfl, hchan⟩ := parameters_exec_cases c h hr
  · exact ⟨.inl ⟨halg, hfb⟩, .inl ⟨hfnum, hblock⟩⟩
  · simp [hchan]
  · simp [hchan]

/-- Settles O33: the overrides are selected by mode, channel and slot, and an override is written by its own command only. -/
theorem overridesDriveChannelTwoInSpecialMode : Obligations.OverridesDriveChannelTwoInSpecialMode := by
  refine ⟨fun d k => effFreq_override k, fun d c sl hown => effFreq_ownPair ?_, fun i s t h hr => ?_⟩
  · obtain hc | hsl | hmode | hmode := hown
    · exact .inl hc
    · exact .inr (.inl hsl)
    · exact .inr (.inr (by simp [hmode]))
    · exact .inr (.inr (by simp [hmode]))
  · obtain ⟨hmode, ⟨hfnum, hblock⟩ | ⟨k', v, rfl, hfnum, hblock⟩⟩ := ch3_exec_cases h hr
    · exact ⟨hmode, fun k => .inl ⟨by rw [hfnum], by rw [hblock]⟩⟩
    · refine ⟨hmode, fun k => ?_⟩
      by_cases hk : k' = k
      · subst hk
        exact .inr ⟨v, rfl⟩
      · have hval : k'.val ≠ k.val := Fin.val_ne_of_ne hk
        exact .inl (by simp [hfnum, hblock, Vector.getElem_set_ne _ _ hval])

end Sys2Proof.Machine
end

section
/-! PROOFS. The host's write call (R83): its word is the WRITE of the masked operands, the writes R93 lists decode to IGNORE, and
every command answers a next state; then the obligation that follows (O8). -/

namespace Sys2Proof

section IgnoredWrites
variable {bank : BitVec 1} {r v : Byte}

/-- A selector 3 names no channel, in either bank, so the write is ignored (R85). -/
@[simp] theorem onChannel_chanIndex_three (orElse : Instr) (act : ChanIx → Instr) :
    onChannel (chanIndex bank 3#2) orElse act = orElse := by
  simp [chanIndex, onChannel]

theorem decodeWrite_of_unmappedFunction (h : unmappedFunction r = true) : decodeWrite bank r v = .ignore bank r v := by
  simp only [unmappedFunction, Bool.or_eq_true, Bool.and_eq_true, decide_eq_true_eq] at h
  have hmode : r ≠ 0x27#8 := by bv_omega
  have hkey : r ≠ 0x28#8 := by bv_omega
  have hop : ¬(0x30#8 ≤ r ∧ r ≤ 0x8F#8) := by bv_omega
  have hfreq : ¬(0xA0#8 ≤ r ∧ r ≤ 0xAF#8) := by bv_omega
  have halg : ¬(0xB0#8 ≤ r ∧ r ≤ 0xB3#8) := by bv_omega
  have hpan : ¬(0xB4#8 ≤ r ∧ r ≤ 0xB7#8) := by bv_omega
  rw [decodeWrite, if_neg hmode, if_neg hkey, if_neg hop, if_neg hfreq, if_neg halg, if_neg hpan]

/-- R93's addresses inside a listed range: all have the channel selector 3. -/
theorem decodeWrite_of_noSuchChannel (h : noSuchChannel r = true) : decodeWrite bank r v = .ignore bank r v := by
  simp only [noSuchChannel, Bool.or_eq_true, Bool.and_eq_true, beq_iff_eq, decide_eq_true_eq] at h
  obtain ((rfl | rfl) | rfl) | ⟨hop, hsel⟩ := h
  · simp [decodeWrite, decodeFrequencyWrite]
  · simp [decodeWrite]
  · simp [decodeWrite]
  · have hmode : r ≠ 0x27#8 := by bv_omega
    have hkey : r ≠ 0x28#8 := by bv_omega
    rw [decodeWrite, if_neg hmode, if_neg hkey, if_pos hop, hsel, onChannel_chanIndex_three]

theorem decodeWrite_of_noSuchKeyChannel (h : noSuchKeyChannel r v = true) : decodeWrite bank r v = .ignore bank r v := by
  simp only [noSuchKeyChannel, Bool.and_eq_true, beq_iff_eq] at h
  obtain ⟨rfl, hsel⟩ := h
  simp [decodeWrite, hsel]

/-- The writes R93 lists decode to IGNORE, whatever the bank. -/
theorem decodeWrite_of_ignoredWrite (h : ignoredWrite r v = true) : decodeWrite bank r v = .ignore bank r v := by
  simp only [ignoredWrite, Bool.or_eq_true] at h
  obtain (hfun | hchan) | hkey := h
  · exact decodeWrite_of_unmappedFunction hfun
  · exact decodeWrite_of_noSuchChannel hchan
  · exact decodeWrite_of_noSuchKeyChannel hkey

end IgnoredWrites

end Sys2Proof

namespace Sys2Proof.Machine

/-- The bits of a host write outside `addr[8:0]` and `data[7:0]` do not reach its word (R83). -/
theorem hostWrite_mod (addr data : Nat) : hostWrite (addr % 512) (data % 256) = hostWrite addr data := by
  simp [hostWrite]

/-- A host write is the WRITE word of its masked operands: bank `addr[8]`, function byte `addr[7:0]`, data byte `data[7:0]` (R83, R84). -/
theorem hostWrite_eq_writeWord (addr data : Nat) :
    hostWrite addr data =
      writeWord (BitVec.ofNat 1 (addr % 512 / 256)) (BitVec.ofNat 8 (addr % 256)) (BitVec.ofNat 8 (data % 256)) := by
  apply BitVec.eq_of_toNat_eq
  simp only [hostWrite, writeWord_toNat, BitVec.toNat_ofNat]
  omega

/-- Every command answers a next state from every state (R300). -/
theorem exec_eq_next (i : Instr) (s : State) : ∃ t, exec i s = .next t := by
  cases i <;> exact ⟨_, rfl⟩

/-- R211: IGNORE changes nothing. -/
@[simp] theorem exec_ignore (bank : BitVec 1) (r v : Byte) (s : State) : exec (.ignore bank r v) s = .next s := rfl

/-- Settles O8: the word of a host write is a WRITE word, and an ignored one decodes to IGNORE. -/
theorem hostWritesAreMaskedAndNeverFail : Obligations.HostWritesAreMaskedAndNeverFail := by
  intro addr data bank r v
  refine ⟨(hostWrite_mod addr data).symm, ?_, exec_eq_next _, fun hignored s => ?_⟩
  · rw [hostWrite_eq_writeWord, decode_writeWord]
  · rw [decodeWrite_of_ignoredWrite hignored, exec_ignore]

end Sys2Proof.Machine
end

section
/-! PROOFS. The envelope generator: the rates (R142 to R144), the gated update of one state (R147, R151), and the states a command
moves an operator between (R140); then the obligations that follow (O37 to O39). -/

namespace Sys2Proof.Machine

/-! ### The rates -/

section RateRules

/-- R142: a stage rate of 0 disables the stage, whatever the keycode and the key scale. -/
theorem rateOf_of_stageRate_zero {o : Operator} (kc : BitVec 5) (h : stageRate o = 0) : rateOf o kc = ⟨0#2, 0, 0⟩ :=
  if_pos h

theorem rateOf_of_stageRate_ne_zero {o : Operator} (kc : BitVec 5) (h : stageRate o ≠ 0) :
    rateOf o kc = tripleOfRate (effectiveRate o kc) :=
  if_neg h

theorem gateOpen_of_shift_zero {r : RateTriple} (clk : BitVec 32) (h : r.shift = 0) : gateOpen r clk = true := by
  simp [gateOpen, h, Nat.mod_one]

theorem envIncrement_of_mul_zero (cfg : Config) {r : RateTriple} (clk : BitVec 32) (h : r.mul = 0) :
    envIncrement cfg r clk = 0 := by
  simp [envIncrement, h]

theorem keyScaledOffset_eq_shiftRight (kc : BitVec 5) (ks : BitVec 2) :
    keyScaledOffset kc ks = kc.toNat >>> (3 - ks.toNat) :=
  (Nat.shiftRight_eq_div_pow ..).symm

theorem keyScaledOffset_le (kc : BitVec 5) (ks : BitVec 2) : keyScaledOffset kc ks ≤ 31 :=
  (Nat.div_le_self ..).trans (Nat.le_of_lt_succ kc.isLt)

theorem keyScaledOffset_zero_le (kc : BitVec 5) : keyScaledOffset kc 0#2 ≤ 3 := by
  have hkc : kc.toNat < 32 := kc.isLt
  have heq : keyScaledOffset kc 0#2 = kc.toNat / 8 := rfl
  omega

theorem keyScaledOffset_three (kc : BitVec 5) : keyScaledOffset kc 3#2 = kc.toNat := Nat.div_one _

end RateRules

/-! ### The gated update -/

section GateRules
variable {cfg : Config} {kc : BitVec 5} {o : Operator}

theorem gatedUpdate_of_open (h : gateOpen (rateOf o kc) o.egClock = true) :
    gatedUpdate cfg kc o = envUpdate (envIncrement cfg (rateOf o kc) o.egClock) o :=
  if_pos h

theorem gatedUpdate_of_closed (h : ¬ gateOpen (rateOf o kc) o.egClock = true) : gatedUpdate cfg kc o = o :=
  if_neg h

theorem envUpdate_of_sustain (inc : Nat) (h : o.egState = .sustain) : envUpdate inc o = sustainUpdate inc o := by
  simp [envUpdate, h]

end GateRules

/-! ### The envelope state after a command -/

section StateRules

/-- R158 under R30: a key-on restarts a note that is not held and is ignored in any other state. -/
theorem keyOn_egState_of_inv {o : Operator} (hi : o.Inv) :
    (keyOn o).egState = if o.egState.held then o.egState else .attack := by
  obtain ⟨hheld, -⟩ := hi
  rw [← hheld, keyOn]
  split <;> rfl

/-- R159 under R30: a key-off releases a held note and is ignored in any other state. -/
theorem keyOff_egState_of_inv {o : Operator} (hi : o.Inv) :
    (keyOff o).egState = if o.egState.held then .release else o.egState := by
  obtain ⟨hheld, -⟩ := hi
  by_cases hoff : o.egState = .off
  · simp [keyOff_of_off hoff, hoff, EgState.held]
  · rw [← hheld]
    cases hkeyon : o.keyon <;> simp [keyOff, hkeyon, hoff]

/-- What a command other than RESET does to the state of an operator that meets R30: nothing, a key event, or one automatic
transition in a SAMPLE (R140). -/
theorem egState_exec_cases {i : Instr} {s t : State} (c : ChanIx) (sl : Slot) (hi : (s.dev.op c sl).Inv)
    (h : exec i s = .next t) (hr : i ≠ .reset) :
    (keyBitOf i c sl = none ∧ (t.dev.op c sl).egState = (s.dev.op c sl).egState) ∨
    (keyBitOf i c sl = some true ∧ (t.dev.op c sl).egState =
      if (s.dev.op c sl).egState.held then (s.dev.op c sl).egState else .attack) ∨
    (keyBitOf i c sl = some false ∧ (t.dev.op c sl).egState =
      if (s.dev.op c sl).egState.held then .release else (s.dev.op c sl).egState) ∨
    (i = .sample ∧
      ((s.dev.op c sl).egState = .attack ∧ (t.dev.op c sl).egState = .decay ∨
        (s.dev.op c sl).egState = .decay ∧ (t.dev.op c sl).egState = .sustain ∨
        (s.dev.op c sl).egState = .release ∧ (t.dev.op c sl).egState = .off)) := by
  obtain ⟨hnone, -, -, hstate, -⟩ | ⟨on, hon, hop⟩ | ⟨rfl, hop⟩ := op_exec_cases c sl h hr
  · exact .inl ⟨hnone, hstate⟩
  · cases on with
    | true => exact .inr (.inl ⟨hon, by rw [hop]; exact keyOn_egState_of_inv hi⟩)
    | false => exact .inr (.inr (.inl ⟨hon, by rw [hop]; exact keyOff_egState_of_inv hi⟩))
  · rw [hop, advancePhase_egState]
    split
    case isFalse => exact .inl ⟨rfl, rfl⟩
    case isTrue =>
      obtain hsame | ⟨hold, hnow, -⟩ | ⟨hold, hnow⟩ | ⟨hold, hnow, -⟩ := envelopeTick_egState defaultConfig
        (keycode defaultConfig s.dev c sl) (s.dev.op c sl)
      · exact .inl ⟨rfl, hsame⟩
      · exact .inr (.inr (.inr ⟨rfl, .inl ⟨hold, hnow⟩⟩))
      · exact .inr (.inr (.inr ⟨rfl, .inr (.inl ⟨hold, hnow⟩)⟩))
      · exact .inr (.inr (.inr ⟨rfl, .inr (.inr ⟨hold, hnow⟩)⟩))

end StateRules

/-! ### The obligations -/

/-- Settles O38, by the four things a command can do to an envelope state. -/
theorem envelopeStatesMoveAsTheRuleSays : Obligations.EnvelopeStatesMoveAsTheRuleSays := by
  intro i s t c sl hi h hr
  obtain ⟨hkey, hnow⟩ | ⟨hkey, hnow⟩ | ⟨hkey, hnow⟩ | ⟨rfl, hmove⟩ := egState_exec_cases c sl hi h hr
  · simp [hkey, hnow]
  · cases hold : (s.dev.op c sl).egState <;> simp [hkey, hnow, hold, EgState.held]
  · cases hold : (s.dev.op c sl).egState <;> simp [hkey, hnow, hold, EgState.held]
  · obtain ⟨hold, hnow⟩ | ⟨hold, hnow⟩ | ⟨hold, hnow⟩ := hmove <;> simp [keyBitOf, hold, hnow]

/-- Settles O39: an open gate applies the SUSTAIN update, and a closed one leaves the clock advance alone. -/
theorem sustainTickAddsAndStays : Obligations.SustainTickAddsAndStays := by
  intro cfg kc o h
  rw [envelopeTick, advanceClock_egState, advanceClock_env]
  split
  case isTrue hopen =>
    rw [gatedUpdate_of_open hopen, envUpdate_of_sustain _ h]
    exact ⟨h, sustainUpdate_env _ o⟩
  case isFalse hclosed =>
    rw [gatedUpdate_of_closed hclosed]
    exact ⟨h, rfl⟩

/-- Settles O37: shift 0 keeps the gate open, multiplier 0 makes the increment 0, and the key-scaled offset is a shift of five bits. -/
theorem ratesFollowStageRateAndKeyScale : Obligations.RatesFollowStageRateAndKeyScale := by
  refine ⟨fun cfg o kc clk h => ?_, fun kc ks => ?_, fun o kc => ⟨?_, rateOf_of_stageRate_ne_zero kc⟩⟩
  · rw [rateOf_of_stageRate_zero kc h]
    exact ⟨rfl, gateOpen_of_shift_zero clk rfl, envIncrement_of_mul_zero cfg clk rfl⟩
  · exact ⟨keyScaledOffset_eq_shiftRight kc ks, keyScaledOffset_le kc ks, keyScaledOffset_zero_le kc,
      keyScaledOffset_three kc⟩
  · rw [effectiveRate, keyScaledOffset_eq_shiftRight]

end Sys2Proof.Machine
end

section
/-! PROOFS. WR_ALG_FB from its word to its effect (R85, R210, R223): the decoding of the registers 0xB0 to 0xB3, and the frame of a
write to the parameters of one channel; then the obligation that follows (O19). -/

namespace Sys2Proof

/-! ### The decoding of a channel register -/

/-- R85: a selector other than 3 names the channel `cs + 3 * bank`. -/
theorem chanIndex_of_ne_three (bank : BitVec 1) {cs : BitVec 2} (h : cs ≠ 3#2) :
    ∃ c : ChanIx, c.val = cs.toNat + 3 * bank.toNat ∧ chanIndex bank cs = some c := by
  have hlt : cs.toNat + 3 * bank.toNat < 6 := by bv_omega
  exact ⟨Fin.ofNat 6 (cs.toNat + 3 * bank.toNat), Nat.mod_eq_of_lt hlt, if_neg h⟩

/-- R210: a write to 0xB0-0xB3 is the WR_ALG_FB of the channel its selector names, with the layout of R91. -/
theorem decodeWrite_of_algFb (bank : BitVec 1) {r : Byte} (v : Byte) (h : 0xB0#8 ≤ r ∧ r ≤ 0xB3#8) :
    decodeWrite bank r v = onChannel (chanIndex bank (r.extractLsb' 0 2)) (.ignore bank r v) fun c =>
      .wrAlgFb c (v.extractLsb' 0 3) (v.extractLsb' 3 3) := by
  have hmode : r ≠ 0x27#8 := by bv_omega
  have hkey : r ≠ 0x28#8 := by bv_omega
  have hop : ¬(0x30#8 ≤ r ∧ r ≤ 0x8F#8) := by bv_omega
  have hfreq : ¬(0xA0#8 ≤ r ∧ r ≤ 0xAF#8) := by bv_omega
  rw [decodeWrite, if_neg hmode, if_neg hkey, if_neg hop, if_neg hfreq, if_pos h]

/-- The registers of the group 0x2C are 0xB0 to 0xB3. -/
theorem algFb_group_range (cs : BitVec 2) : 0xB0#8 ≤ 0x2C#6 ++ cs ∧ 0x2C#6 ++ cs ≤ 0xB3#8 := by
  revert cs
  decide

/-- A WR_ALG_FB word whose selector and bank name channel `c` decodes to the WR_ALG_FB of `c`. -/
theorem decode_writeWord_algFb {bank : BitVec 1} {cs : BitVec 2} {c : ChanIx} (v : Byte)
    (h : chanIndex bank cs = some c) :
    decode (writeWord bank (0x2C#6 ++ cs) v) = .ok (.wrAlgFb c (v.extractLsb' 0 3) (v.extractLsb' 3 3)) := by
  rw [decode_writeWord, decodeWrite_of_algFb bank v (algFb_group_range cs), BitVec.extractLsb'_append_eq_right, h,
    onChannel]

end Sys2Proof

namespace Sys2Proof.Machine

/-! ### The effect -/

/-- A write to channel `c` that keeps its memories and operators writes its parameters alone. -/
theorem onlyChannelParameters_updateChan {s : State} {c : ChanIx} {f : Channel → Channel}
    (hmem : (s.dev.chan c).sameMemories (f (s.dev.chan c)))
    (hop : ∀ sl, (f (s.dev.chan c)).op sl = (s.dev.chan c).op sl) :
    onlyChannelParameters c s (s.updateDev fun d => d.updateChan c f) := by
  refine ⟨⟨rfl, rfl⟩, ⟨rfl, rfl, rfl, rfl, rfl, rfl, rfl⟩, fun c' hc => ?_, ?_, fun sl => ?_⟩
  · exact Device.chan_updateChan_of_ne s.dev f hc
  · rwa [State.updateDev_dev, Device.chan_updateChan_self]
  · rw [Device.op, State.updateDev_dev, Device.chan_updateChan_self, hop, Device.op]

/-- R223: WR_ALG_FB completes, sets the two fields of its channel and writes nothing outside that channel's parameters. -/
theorem exec_wrAlgFb (c : ChanIx) (alg fb : BitVec 3) (s : State) :
    ∃ t, exec (.wrAlgFb c alg fb) s = .next t ∧
      t.dev.chan c = { s.dev.chan c with alg := alg, fb := fb } ∧ onlyChannelParameters c s t :=
  ⟨_, rfl, Device.chan_updateChan_self .., onlyChannelParameters_updateChan ⟨rfl, rfl, rfl⟩ fun _ => rfl⟩

/-- Settles O19: the word decodes through its selector, and the channel after the write is the channel before with the two fields set. -/
theorem algorithmWriteSetsAlgAndFeedback : Obligations.AlgorithmWriteSetsAlgAndFeedback := by
  refine ⟨fun bank cs v s hcs => ?_, fun bank v s => ⟨?_, exec_ignore ..⟩, by decide⟩
  · obtain ⟨c, hval, hchan⟩ := chanIndex_of_ne_three bank hcs
    obtain ⟨t, hexec, hafter, hframe⟩ := exec_wrAlgFb c (v.extractLsb' 0 3) (v.extractLsb' 3 3) s
    refine ⟨c, t, hval, decode_writeWord_algFb v hchan, hexec, ?_, ?_, ?_, ?_, hframe, ?_⟩ <;> rw [hafter]
  · rw [decode_writeWord, decodeWrite_of_noSuchChannel (by decide)]

end Sys2Proof.Machine
end

section
/-! PROOFS. SAMPLE as one step (R250): the next state in terms of the device and the frames before; then the obligation that follows
(O14). -/

namespace Sys2Proof.Machine

/-- R250: SAMPLE always completes; it steps the device and appends the device's frame to those emitted. -/
theorem exec_sample (s : State) :
    exec .sample s = .next { s with
      dev := sampleDevice defaultConfig s.dev
      frames := s.frames ++ [sampleFrame defaultConfig s.dev] } := rfl

/-- Settles O14: the next device and the frame appended are both functions of the device before (R257). -/
theorem sampleReadsOnlyTheDevice : Obligations.SampleReadsOnlyTheDevice := by
  intro s s' hdev
  have hnext : sampleDevice defaultConfig s'.dev = sampleDevice defaultConfig s.dev := by rw [hdev]
  have hframe : s'.frames ++ [sampleFrame defaultConfig s'.dev] = s'.frames ++ [sampleFrame defaultConfig s.dev] := by
    rw [hdev]
  exact ⟨_, _, sampleFrame defaultConfig s.dev, exec_sample s, exec_sample s', hnext, rfl, hframe⟩

end Sys2Proof.Machine
end

section
/-! PROOFS. The block raises no exception (R300): every command, every host write and every step; then the obligation that follows
(O12). -/

namespace Sys2Proof.Machine

/-- Settles O12: every command answers a next state, a host write is always a WRITE word, an ignored write decodes to IGNORE, and the
model has no fault for a step to end in (R300). -/
theorem noCommandRaisesAnException : Obligations.NoCommandRaisesAnException := by
  refine ⟨exec_eq_next, fun addr data => ?_, fun bank r v s hignored => ?_, fun _ f => nomatch f⟩
  · obtain ⟨-, hdecode, -⟩ := hostWritesAreMaskedAndNeverFail addr data
    exact ⟨_, hdecode⟩
  · rw [decodeWrite_of_ignoredWrite hignored, exec_ignore]

end Sys2Proof.Machine
end

section
/-! PROOFS. The high and low frequency writes as one protocol on the latch (R220, R221): what each write does, then the obligation that
follows (O24). -/

namespace Sys2Proof.Machine

/-! ### The pair a latch holds -/

theorem latchedFnum_append (block fnumHi : BitVec 3) (v : Byte) : latchedFnum (block ++ fnumHi) v = fnumHi ++ v := by
  rw [latchedFnum, BitVec.extractLsb'_append_eq_right]

theorem latchedBlock_append (block fnumHi : BitVec 3) : latchedBlock (block ++ fnumHi) = block :=
  BitVec.extractLsb'_append_eq_left

/-! ### The two writes -/

section FrequencyWrites
variable {block fnumHi : BitVec 3} {c : ChanIx} {fnumLo : Byte} {s t : State}

/-- R220: the high write stores its operands in the latch and changes nothing else of the device. -/
theorem dev_wrFnumHi (h : exec (.wrFnumHi block fnumHi) s = .next t) :
    t.dev = { s.dev with latch := block ++ fnumHi } := by
  cases h
  rfl

theorem latch_wrFnumLo (h : exec (.wrFnumLo c fnumLo) s = .next t) : t.dev.latch = s.dev.latch := by
  cases h
  rfl

/-- R221: the low write sets the pair of its channel to the latched pair, its own byte below. -/
theorem chan_wrFnumLo (h : exec (.wrFnumLo c fnumLo) s = .next t) :
    t.dev.chan c =
      { s.dev.chan c with fnum := latchedFnum s.dev.latch fnumLo, block := latchedBlock s.dev.latch } := by
  cases h
  exact Device.chan_updateChan_self ..

/-- A low write where the latch still holds a high write's operands gives its channel the whole pair (R334). -/
theorem pair_wrFnumLo (hlatch : s.dev.latch = block ++ fnumHi) (h : exec (.wrFnumLo c fnumLo) s = .next t) :
    (t.dev.chan c).fnum = fnumHi ++ fnumLo ∧ (t.dev.chan c).block = block := by
  rw [chan_wrFnumLo h, hlatch, latchedFnum_append, latchedBlock_append]
  exact ⟨rfl, rfl⟩

end FrequencyWrites

/-- Settles O24: the latch keeps the high write's operands over any low write, and a low write of any channel applies them (R334). -/
theorem highThenLowAppliesThePair : Obligations.HighThenLowAppliesThePair := by
  refine ⟨fun block fnumHi s t hhi c sl => ?_, fun block fnumHi c fnumLo s t u hhi hlo => ?_,
    fun c fnumLo s t hlo => latch_wrFnumLo hlo, fun block fnumHi c c' fnumLo fnumLo' s t u v hhi hlo hlo' => ?_⟩
  · rw [dev_wrFnumHi hhi]
    exact effFreq_congr rfl rfl rfl rfl rfl
  · have hlatch : t.dev.latch = block ++ fnumHi := by rw [dev_wrFnumHi hhi]
    exact pair_wrFnumLo hlatch hlo
  · have hlatch : u.dev.latch = block ++ fnumHi := by rw [latch_wrFnumLo hlo, dev_wrFnumHi hhi]
    exact pair_wrFnumLo hlatch hlo'

end Sys2Proof.Machine
end

section
/-! PROOFS. The command words: what the decoder reads for each kind and each range of function bytes (R82, R210), the
encoder inverted (R85, R86), and the words of the pseudo-commands (R97); then the obligations that follow (O1, O2, O4,
O5, O9, O10). -/

namespace Sys2Proof

/-! ### The four kinds of word -/

section Kinds
variable {w : CommandWord}

/-- R82: the four kinds are all there are. -/
theorem kind_cases (w : CommandWord) :
    w.extractLsb' 17 2 = 0#2 ∨ w.extractLsb' 17 2 = 1#2 ∨ w.extractLsb' 17 2 = 2#2 ∨ w.extractLsb' 17 2 = 3#2 := by
  generalize w.extractLsb' 17 2 = kind
  revert kind
  decide

theorem decode_of_kind_write (h : w.extractLsb' 17 2 = 0#2) :
    decode w = .ok (decodeWrite (w.extractLsb' 16 1) (w.extractLsb' 8 8) (w.extractLsb' 0 8)) := by
  simp [decode, h]

theorem decode_of_kind_sample (h : w.extractLsb' 17 2 = 1#2) : decode w = .ok .sample := by
  simp [decode, h]

theorem decode_of_kind_reset (h : w.extractLsb' 17 2 = 2#2) : decode w = .ok .reset := by
  simp [decode, h]

theorem decode_of_kind_reserved (h : w.extractLsb' 17 2 = 3#2) : decode w = .error .reservedKind := by
  simp [decode, h]

end Kinds

/-! ### The ranges of function bytes -/

section Ranges
variable {bank : BitVec 1} {r v : Byte}

/-- R210: a write to 0x30-0x8F is an operator-register write of the channel its selector names. -/
theorem decodeWrite_of_operator (h : 0x30#8 ≤ r ∧ r ≤ 0x8F#8) :
    decodeWrite bank r v = onChannel (chanIndex bank (r.extractLsb' 0 2)) (.ignore bank r v) fun c =>
      decodeOperatorWrite c (slotIndex r) (r.extractLsb' 4 4) v := by
  have hmode : r ≠ 0x27#8 := by bv_omega
  have hkey : r ≠ 0x28#8 := by bv_omega
  rw [decodeWrite, if_neg hmode, if_neg hkey, if_pos h]

theorem decodeWrite_of_frequency (h : 0xA0#8 ≤ r ∧ r ≤ 0xAF#8) :
    decodeWrite bank r v = decodeFrequencyWrite bank r v := by
  have hmode : r ≠ 0x27#8 := by bv_omega
  have hkey : r ≠ 0x28#8 := by bv_omega
  have hop : ¬(0x30#8 ≤ r ∧ r ≤ 0x8F#8) := by bv_omega
  rw [decodeWrite, if_neg hmode, if_neg hkey, if_neg hop, if_pos h]

/-- R210: the registers 0xA4-0xA7 and 0xAC-0xAF are the high frequency writes. -/
theorem decodeWrite_of_fnumHi (h : 0xA0#8 ≤ r ∧ r ≤ 0xAF#8) (hhi : r.extractLsb' 2 1 = 1#1) :
    decodeWrite bank r v = .wrFnumHi (v.extractLsb' 3 3) (v.extractLsb' 0 3) := by
  rw [decodeWrite_of_frequency h, decodeFrequencyWrite, if_pos hhi]

/-- R210: the registers 0xA8-0xAB are the low writes of the overrides. -/
theorem decodeWrite_of_ch3FnumLo (h : 0xA0#8 ≤ r ∧ r ≤ 0xAF#8) (hlo : r.extractLsb' 2 1 ≠ 1#1)
    (h3 : r.extractLsb' 3 1 = 1#1) : decodeWrite bank r v = .wrCh3FnumLo (overrideIndex r) v := by
  rw [decodeWrite_of_frequency h, decodeFrequencyWrite, if_neg hlo, if_pos h3]

/-- R210: the registers 0xA0-0xA3 are the low writes of the channel their selector names. -/
theorem decodeWrite_of_fnumLo (h : 0xA0#8 ≤ r ∧ r ≤ 0xAF#8) (hlo : r.extractLsb' 2 1 ≠ 1#1)
    (h3 : r.extractLsb' 3 1 ≠ 1#1) :
    decodeWrite bank r v =
      onChannel (chanIndex bank (r.extractLsb' 0 2)) (.ignore bank r v) fun c => .wrFnumLo c v := by
  rw [decodeWrite_of_frequency h, decodeFrequencyWrite, if_neg hlo, if_neg h3]

/-- R210: a write to 0xB4-0xB7 is the WR_PAN of the channel its selector names. -/
theorem decodeWrite_of_pan (h : 0xB4#8 ≤ r ∧ r ≤ 0xB7#8) :
    decodeWrite bank r v = onChannel (chanIndex bank (r.extractLsb' 0 2)) (.ignore bank r v) fun c =>
      .wrPan c (v.getLsbD 7) (v.getLsbD 6) := by
  have hmode : r ≠ 0x27#8 := by bv_omega
  have hkey : r ≠ 0x28#8 := by bv_omega
  have hop : ¬(0x30#8 ≤ r ∧ r ≤ 0x8F#8) := by bv_omega
  have hfreq : ¬(0xA0#8 ≤ r ∧ r ≤ 0xAF#8) := by bv_omega
  have halg : ¬(0xB0#8 ≤ r ∧ r ≤ 0xB3#8) := by bv_omega
  rw [decodeWrite, if_neg hmode, if_neg hkey, if_neg hop, if_neg hfreq, if_neg halg, if_pos h]

/-- The selector 3 names no channel, and it is the only one (R85). -/
theorem chanIndex_cases (bank : BitVec 1) (cs : BitVec 2) :
    (cs = 3#2 ∧ chanIndex bank cs = none) ∨ (cs ≠ 3#2 ∧ ∃ c, chanIndex bank cs = some c) := by
  by_cases h : cs = 3#2
  · exact .inl ⟨h, if_pos h⟩
  · exact .inr ⟨h, _, if_neg h⟩

end Ranges

/-! ### The decoding of a WRITE, branch by branch -/

/-- R210 with R93: the commands a WRITE of a function and a data byte can decode to, one constructor for each register
group. -/
inductive DecodesTo (bank : BitVec 1) : Byte → Byte → Instr → Prop
  | mode (v : Byte) : DecodesTo bank 0x27#8 v (.wrMode (v.extractLsb' 6 2))
  | key (v : Byte) (c : ChanIx) (hsel : v.extractLsb' 0 2 ≠ 3#2)
      (hc : chanIndex (v.extractLsb' 2 1) (v.extractLsb' 0 2) = some c) :
      DecodesTo bank 0x28#8 v (.wrKey c (v.extractLsb' 4 4))
  | operator (r v : Byte) (c : ChanIx) (hr : 0x30#8 ≤ r ∧ r ≤ 0x8F#8) (hsel : r.extractLsb' 0 2 ≠ 3#2)
      (hc : chanIndex bank (r.extractLsb' 0 2) = some c) :
      DecodesTo bank r v (decodeOperatorWrite c (slotIndex r) (r.extractLsb' 4 4) v)
  | fnumHi (r v : Byte) (hr : 0xA0#8 ≤ r ∧ r ≤ 0xAF#8) (hhi : r.extractLsb' 2 1 = 1#1) :
      DecodesTo bank r v (.wrFnumHi (v.extractLsb' 3 3) (v.extractLsb' 0 3))
  | ch3FnumLo (r v : Byte) (hr : 0xA0#8 ≤ r ∧ r ≤ 0xAF#8) (hlo : r.extractLsb' 2 1 ≠ 1#1)
      (h3 : r.extractLsb' 3 1 = 1#1) : DecodesTo bank r v (.wrCh3FnumLo (overrideIndex r) v)
  | fnumLo (r v : Byte) (c : ChanIx) (hr : 0xA0#8 ≤ r ∧ r ≤ 0xAF#8) (hlo : r.extractLsb' 2 1 ≠ 1#1)
      (h3 : r.extractLsb' 3 1 ≠ 1#1) (hsel : r.extractLsb' 0 2 ≠ 3#2)
      (hc : chanIndex bank (r.extractLsb' 0 2) = some c) : DecodesTo bank r v (.wrFnumLo c v)
  | algFb (r v : Byte) (c : ChanIx) (hr : 0xB0#8 ≤ r ∧ r ≤ 0xB3#8) (hsel : r.extractLsb' 0 2 ≠ 3#2)
      (hc : chanIndex bank (r.extractLsb' 0 2) = some c) :
      DecodesTo bank r v (.wrAlgFb c (v.extractLsb' 0 3) (v.extractLsb' 3 3))
  | pan (r v : Byte) (c : ChanIx) (hr : 0xB4#8 ≤ r ∧ r ≤ 0xB7#8) (hsel : r.extractLsb' 0 2 ≠ 3#2)
      (hc : chanIndex bank (r.extractLsb' 0 2) = some c) :
      DecodesTo bank r v (.wrPan c (v.getLsbD 7) (v.getLsbD 6))
  | ignored (r v : Byte) (h : ignoredWrite r v = true) : DecodesTo bank r v (.ignore bank r v)

theorem ignoredWrite_of_noSuchChannel {r v : Byte} (h : noSuchChannel r = true) : ignoredWrite r v = true := by
  simp [ignoredWrite, h]

/-- A channel register whose selector is 3 is one of R93's addresses. -/
theorem noSuchChannel_of_selector {r : Byte} (hsel : r.extractLsb' 0 2 = 3#2)
    (hr : (0x30#8 ≤ r ∧ r ≤ 0x8F#8) ∨ (0xA0#8 ≤ r ∧ r ≤ 0xA3#8) ∨ (0xB0#8 ≤ r ∧ r ≤ 0xB7#8)) :
    noSuchChannel r = true := by
  revert r
  decide

/-- The low frequency registers of a channel are 0xA0 to 0xA3. -/
theorem fnumLo_range {r : Byte} (hr : 0xA0#8 ≤ r ∧ r ≤ 0xAF#8) (hlo : r.extractLsb' 2 1 ≠ 1#1)
    (h3 : r.extractLsb' 3 1 ≠ 1#1) : 0xA0#8 ≤ r ∧ r ≤ 0xA3#8 := by
  revert r
  decide

/-- Every WRITE decodes as one of the register groups says. -/
theorem decodesTo_decodeWrite (bank : BitVec 1) (r v : Byte) : DecodesTo bank r v (decodeWrite bank r v) := by
  by_cases hmode : r = 0x27#8
  · subst hmode
    exact .mode v
  by_cases hkey : r = 0x28#8
  · subst hkey
    obtain ⟨hsel, -⟩ | ⟨hsel, c, hc⟩ := chanIndex_cases (v.extractLsb' 2 1) (v.extractLsb' 0 2)
    · have hno : noSuchKeyChannel 0x28#8 v = true := by simp [noSuchKeyChannel, hsel]
      rw [decodeWrite_of_noSuchKeyChannel hno]
      exact .ignored _ _ (by simp [ignoredWrite, hno])
    · have heq : decodeWrite bank 0x28#8 v = .wrKey c (v.extractLsb' 4 4) := by simp [decodeWrite, hc, onChannel]
      rw [heq]
      exact .key v c hsel hc
  have hselector (hr : (0x30#8 ≤ r ∧ r ≤ 0x8F#8) ∨ (0xA0#8 ≤ r ∧ r ≤ 0xA3#8) ∨ (0xB0#8 ≤ r ∧ r ≤ 0xB7#8))
      (act : ChanIx → Instr)
      (hact : ∀ c, r.extractLsb' 0 2 ≠ 3#2 → chanIndex bank (r.extractLsb' 0 2) = some c → DecodesTo bank r v (act c)) :
      DecodesTo bank r v (onChannel (chanIndex bank (r.extractLsb' 0 2)) (.ignore bank r v) act) := by
    obtain ⟨hsel, hc⟩ | ⟨hsel, c, hc⟩ := chanIndex_cases bank (r.extractLsb' 0 2)
    · rw [hc]
      exact .ignored _ _ (ignoredWrite_of_noSuchChannel (noSuchChannel_of_selector hsel hr))
    · rw [hc]
      exact hact c hsel hc
  by_cases hop : 0x30#8 ≤ r ∧ r ≤ 0x8F#8
  · rw [decodeWrite_of_operator hop]
    exact hselector (.inl hop) _ fun c => .operator r v c hop
  by_cases hfreq : 0xA0#8 ≤ r ∧ r ≤ 0xAF#8
  · by_cases hhi : r.extractLsb' 2 1 = 1#1
    · rw [decodeWrite_of_fnumHi hfreq hhi]
      exact .fnumHi r v hfreq hhi
    by_cases h3 : r.extractLsb' 3 1 = 1#1
    · rw [decodeWrite_of_ch3FnumLo hfreq hhi h3]
      exact .ch3FnumLo r v hfreq hhi h3
    · rw [decodeWrite_of_fnumLo hfreq hhi h3]
      exact hselector (.inr (.inl (fnumLo_range hfreq hhi h3))) _ fun c => .fnumLo r v c hfreq hhi h3
  by_cases halg : 0xB0#8 ≤ r ∧ r ≤ 0xB3#8
  · rw [decodeWrite_of_algFb bank v halg]
    exact hselector (.inr (.inr (by bv_omega))) _ fun c => .algFb r v c halg
  by_cases hpan : 0xB4#8 ≤ r ∧ r ≤ 0xB7#8
  · rw [decodeWrite_of_pan hpan]
    exact hselector (.inr (.inr (by bv_omega))) _ fun c => .pan r v c hpan
  · have hunmapped : unmappedFunction r = true := by
      simp only [unmappedFunction, Bool.or_eq_true, Bool.and_eq_true, decide_eq_true_eq]
      bv_omega
    rw [decodeWrite_of_unmappedFunction hunmapped]
    exact .ignored r v (by simp [ignoredWrite, hunmapped])

section OperatorWrites
variable (c : ChanIx) (s : Slot) (v : Byte)

/-! R88: the command of each digit. -/

theorem decodeOperatorWrite_dtMul :
    decodeOperatorWrite c s 3#4 v = .wrDtMul c s (v.extractLsb' 4 3) (v.extractLsb' 0 4) := rfl
theorem decodeOperatorWrite_tl : decodeOperatorWrite c s 4#4 v = .wrTl c s (v.extractLsb' 0 7) := rfl
theorem decodeOperatorWrite_ksAr :
    decodeOperatorWrite c s 5#4 v = .wrKsAr c s (v.extractLsb' 6 2) (v.extractLsb' 0 5) := rfl
theorem decodeOperatorWrite_dr : decodeOperatorWrite c s 6#4 v = .wrDr c s (v.extractLsb' 0 5) := rfl
theorem decodeOperatorWrite_sr : decodeOperatorWrite c s 7#4 v = .wrSr c s (v.extractLsb' 0 5) := rfl
theorem decodeOperatorWrite_slRr :
    decodeOperatorWrite c s 8#4 v = .wrSlRr c s (v.extractLsb' 4 4) (v.extractLsb' 0 4) := rfl

end OperatorWrites

/-- The high digit of an operator register is one of the six of R88. -/
theorem digit_cases {r : Byte} (hr : 0x30#8 ≤ r ∧ r ≤ 0x8F#8) :
    r.extractLsb' 4 4 = 3#4 ∨ r.extractLsb' 4 4 = 4#4 ∨ r.extractLsb' 4 4 = 5#4 ∨
      r.extractLsb' 4 4 = 6#4 ∨ r.extractLsb' 4 4 = 7#4 ∨ r.extractLsb' 4 4 = 8#4 := by
  revert r
  decide

/-- An IGNORE comes only from a write R93 lists, and carries that write. -/
theorem ignore_of_decodesTo {bank b : BitVec 1} {r v r' v' : Byte} (h : DecodesTo bank r v (.ignore b r' v')) :
    ignoredWrite r v = true ∧ b = bank ∧ r' = r ∧ v' = v := by
  generalize hi : Instr.ignore b r' v' = i at h
  cases h with
  | operator _ _ c hr =>
    obtain hd | hd | hd | hd | hd | hd := digit_cases hr <;> simp [hd, decodeOperatorWrite] at hi
  | ignored _ _ hignored =>
    cases hi
    exact ⟨hignored, rfl, rfl, rfl⟩
  | mode | key | fnumHi | ch3FnumLo | fnumLo | algFb | pan => cases hi

/-! ### The encoder inverted -/

/-- The middle of three fields read back. -/
theorem extractLsb'_append_middle {p m n : Nat} (a : BitVec p) (b : BitVec m) (c : BitVec n) :
    (a ++ b ++ c).extractLsb' n m = b := by
  ext i hi
  simp [BitVec.getLsbD_append, hi]

section Encoder
variable (c : ChanIx) (s : Slot)

/-- The function byte of a channel register, its upper six bits fixed, has the channel's selector in its low bits
(R85). -/
theorem selector_append (group : BitVec 6) : (group ++ selectorOf c).extractLsb' 0 2 = selectorOf c :=
  BitVec.extractLsb'_append_eq_right

/-- R86: the slot bits of an operator's function byte are those of its slot. -/
theorem slotIndex_append (digit : BitVec 4) (sel : BitVec 2) : slotIndex (digit ++ slotBitsOf s ++ sel) = s := by
  revert digit s sel
  decide

theorem digit_append (digit : BitVec 4) (slotBits sel : BitVec 2) :
    (digit ++ slotBits ++ sel).extractLsb' 4 4 = digit := by
  revert digit slotBits sel
  decide

theorem operator_range {digit : BitVec 4} (slotBits sel : BitVec 2) (hlo : 3#4 ≤ digit) (hhi : digit ≤ 8#4) :
    0x30#8 ≤ digit ++ slotBits ++ sel ∧ digit ++ slotBits ++ sel ≤ 0x8F#8 := by
  revert digit slotBits sel
  decide

/-- The word of an operator register decodes to the write of its digit at its channel and slot (R85, R86, R88). -/
theorem decode_operatorWord {digit : BitVec 4} (v : Byte) (hlo : 3#4 ≤ digit) (hhi : digit ≤ 8#4) :
    decode (operatorWord digit c s v) = .ok (decodeOperatorWrite c s digit v) := by
  have hsel : (digit ++ slotBitsOf s ++ selectorOf c).extractLsb' 0 2 = selectorOf c :=
    BitVec.extractLsb'_append_eq_right
  rw [operatorWord, decode_writeWord, decodeWrite_of_operator (operator_range _ _ hlo hhi), hsel,
    chanIndex_bankOf_selectorOf, slotIndex_append, digit_append, onChannel]

theorem decode_channelWord_fnumLo (v : Byte) : decode (channelWord 0x28#6 c v) = .ok (.wrFnumLo c v) := by
  have hrange : 0xA0#8 ≤ 0x28#6 ++ selectorOf c ∧ 0x28#6 ++ selectorOf c ≤ 0xAF#8 := by revert c; decide
  have hlo : (0x28#6 ++ selectorOf c).extractLsb' 2 1 ≠ 1#1 := by revert c; decide
  have h3 : (0x28#6 ++ selectorOf c).extractLsb' 3 1 ≠ 1#1 := by revert c; decide
  rw [channelWord, decode_writeWord, decodeWrite_of_fnumLo hrange hlo h3, selector_append,
    chanIndex_bankOf_selectorOf, onChannel]

theorem decode_channelWord_pan (v : Byte) :
    decode (channelWord 0x2D#6 c v) = .ok (.wrPan c (v.getLsbD 7) (v.getLsbD 6)) := by
  have hrange : 0xB4#8 ≤ 0x2D#6 ++ selectorOf c ∧ 0x2D#6 ++ selectorOf c ≤ 0xB7#8 := by revert c; decide
  rw [channelWord, decode_writeWord, decodeWrite_of_pan hrange, selector_append, chanIndex_bankOf_selectorOf, onChannel]

theorem decode_ch3FnumLo (bank : BitVec 1) (k : OverrideIx) (v : Byte) :
    decode (writeWord bank (0x2A#6 ++ BitVec.ofNat 2 k.val) v) = .ok (.wrCh3FnumLo k v) := by
  have hrange : 0xA0#8 ≤ 0x2A#6 ++ BitVec.ofNat 2 k.val ∧ 0x2A#6 ++ BitVec.ofNat 2 k.val ≤ 0xAF#8 := by
    revert k; decide
  have hlo : (0x2A#6 ++ BitVec.ofNat 2 k.val).extractLsb' 2 1 ≠ 1#1 := by revert k; decide
  have h3 : (0x2A#6 ++ BitVec.ofNat 2 k.val).extractLsb' 3 1 = 1#1 := by revert k; decide
  have hindex : overrideIndex (0x2A#6 ++ BitVec.ofNat 2 k.val) = k := by revert k; decide
  rw [decode_writeWord, decodeWrite_of_ch3FnumLo hrange hlo h3, hindex]

/-- The data byte of a WR_KEY names its channel and its key bits (R89). -/
theorem decode_wrKey (keys : BitVec 4) : decode (encode (.wrKey c keys)) = .ok (.wrKey c keys) := by
  have hbank : (keys ++ 0#1 ++ bankOf c ++ selectorOf c).extractLsb' 2 1 = bankOf c := by revert keys c; decide
  have hsel : (keys ++ 0#1 ++ bankOf c ++ selectorOf c).extractLsb' 0 2 = selectorOf c :=
    BitVec.extractLsb'_append_eq_right
  have hkeys : (keys ++ 0#1 ++ bankOf c ++ selectorOf c).extractLsb' 4 4 = keys := by revert keys c; decide
  rw [encode, decode_writeWord, decodeWrite, if_neg (by decide), if_pos rfl, hbank, hsel, chanIndex_bankOf_selectorOf,
    onChannel, hkeys]

end Encoder

/-! ### The obligations -/

/-- Settles O1: each encoded word is a WRITE word of its register group, and its data byte reads back field by field. -/
theorem decodeEncodeRoundTrip : Obligations.DecodeEncodeRoundTrip := by
  intro i hwf
  cases i with
  | wrMode mode =>
    rw [encode, decode_writeWord, decodeWrite, if_pos rfl, BitVec.extractLsb'_append_eq_left]
  | wrKey c keys => exact decode_wrKey c keys
  | wrDtMul c s det mul =>
    rw [encode, decode_operatorWord c s _ (by decide) (by decide), decodeOperatorWrite_dtMul,
      extractLsb'_append_middle, BitVec.extractLsb'_append_eq_right]
  | wrTl c s tl =>
    rw [encode, decode_operatorWord c s _ (by decide) (by decide), decodeOperatorWrite_tl,
      BitVec.extractLsb'_append_eq_right]
  | wrKsAr c s ks ar =>
    have hks : (ks ++ 0#1 ++ ar).extractLsb' 6 2 = ks := by clear hwf; revert ks ar; decide
    rw [encode, decode_operatorWord c s _ (by decide) (by decide), decodeOperatorWrite_ksAr, hks,
      BitVec.extractLsb'_append_eq_right]
  | wrDr c s dr =>
    rw [encode, decode_operatorWord c s _ (by decide) (by decide), decodeOperatorWrite_dr,
      BitVec.extractLsb'_append_eq_right]
  | wrSr c s sr =>
    rw [encode, decode_operatorWord c s _ (by decide) (by decide), decodeOperatorWrite_sr,
      BitVec.extractLsb'_append_eq_right]
  | wrSlRr c s sl rr =>
    rw [encode, decode_operatorWord c s _ (by decide) (by decide), decodeOperatorWrite_slRr,
      BitVec.extractLsb'_append_eq_left, BitVec.extractLsb'_append_eq_right]
  | wrFnumHi block fnumHi =>
    rw [encode, decode_writeWord, decodeWrite_of_fnumHi (by decide) (by decide), extractLsb'_append_middle,
      BitVec.extractLsb'_append_eq_right]
  | wrFnumLo c fnumLo => exact decode_channelWord_fnumLo c fnumLo
  | wrCh3FnumLo k fnumLo => exact decode_ch3FnumLo 0#1 k fnumLo
  | wrAlgFb c alg fb =>
    rw [encode, channelWord, decode_writeWord_algFb _ (chanIndex_bankOf_selectorOf c), extractLsb'_append_middle,
      BitVec.extractLsb'_append_eq_right]
  | wrPan c left right =>
    have hleft : (BitVec.ofBool left ++ BitVec.ofBool right ++ 0#6).getLsbD 7 = left := by
      cases left <;> cases right <;> rfl
    have hright : (BitVec.ofBool left ++ BitVec.ofBool right ++ 0#6).getLsbD 6 = right := by
      cases left <;> cases right <;> rfl
    rw [encode, decode_channelWord_pan, hleft, hright]
  | sample => exact decode_of_kind_sample (by decide)
  | reset => exact decode_of_kind_reset (by decide)
  | ignore bank r v => rw [encode, decode_writeWord, decodeWrite_of_ignoredWrite hwf]

/-- Settles O2: only an IGNORE can be ill-formed, and the decoder gives one only for a write R93 lists. -/
theorem decodedCommandsAreWellFormed : Obligations.DecodedCommandsAreWellFormed := by
  intro w i h
  cases i with
  | ignore b r v =>
    obtain hkind | hkind | hkind | hkind := kind_cases w
    · rw [decode_of_kind_write hkind] at h
      have hto := decodesTo_decodeWrite (w.extractLsb' 16 1) (w.extractLsb' 8 8) (w.extractLsb' 0 8)
      rw [Except.ok.inj h] at hto
      obtain ⟨hignored, -, rfl, rfl⟩ := ignore_of_decodesTo hto
      exact hignored
    · rw [decode_of_kind_sample hkind] at h; cases h
    · rw [decode_of_kind_reset hkind] at h; cases h
    · rw [decode_of_kind_reserved hkind] at h; cases h
  | wrMode | wrKey | wrDtMul | wrTl | wrKsAr | wrDr | wrSr | wrSlRr | wrFnumHi | wrFnumLo | wrCh3FnumLo | wrAlgFb
  | wrPan | sample | reset => rfl

/-- Settles O5: R93's writes are those of the one constructor of the decoding that gives an IGNORE. -/
theorem ignoredWritesAreThoseListed : Obligations.IgnoredWritesAreThoseListed := by
  refine fun bank r v => ⟨decodeWrite_of_ignoredWrite, fun hnot b r' v' h => ?_⟩
  have hto := decodesTo_decodeWrite bank r v
  rw [h] at hto
  obtain ⟨hignored, -⟩ := ignore_of_decodesTo hto
  exact absurd hignored (by simp [hnot])

/-- Settles O4: of the four kinds only 0b11 is refused, and the step passes the refusal on. -/
theorem onlyReservedKindIsRefused : Obligations.OnlyReservedKindIsRefused := by
  refine ⟨fun w => ⟨fun h => ?_, decode_of_kind_reserved⟩, fun s w rest hc hk => ?_⟩
  · obtain hkind | hkind | hkind | hkind := kind_cases w
    · rw [decode_of_kind_write hkind] at h; cases h
    · rw [decode_of_kind_sample hkind] at h; cases h
    · rw [decode_of_kind_reset hkind] at h; cases h
    · exact hkind
  · simp [Machine.step, hc, decode_of_kind_reserved hk]

/-- Settles O9, word by word. -/
theorem writtenOutWordsDecode : Obligations.WrittenOutWordsDecode := by
  unfold Obligations.WrittenOutWordsDecode
  decide

end Sys2Proof

namespace Sys2Proof.Machine

/-! ### The words of the pseudo-commands -/

/-- A host write to a register of channel `c`'s bank is the WRITE word of that bank, register and byte (R83, R85). -/
theorem hostWrite_of_channel (c : ChanIx) {low data : Nat} (hlow : low < 256) :
    hostWrite (0x100 * (c.val / 3) + low) data = writeWord (bankOf c) (BitVec.ofNat 8 low) (BitVec.ofNat 8 data) := by
  have hc := c.isLt
  have hbank : (0x100 * (c.val / 3) + low) % 512 / 256 = c.val / 3 := by omega
  have hfunction : (0x100 * (c.val / 3) + low) % 256 = low := by omega
  have hdata : BitVec.ofNat 8 (data % 256) = BitVec.ofNat 8 data :=
    BitVec.eq_of_toNat_eq (by simp)
  rw [hostWrite_eq_writeWord, hbank, hfunction, hdata, bankOf]

theorem hostWrite_of_bank_zero {low data : Nat} (hlow : low < 256) :
    hostWrite low data = writeWord 0#1 (BitVec.ofNat 8 low) (BitVec.ofNat 8 data) := by
  have h := hostWrite_of_channel 0 (data := data) hlow
  rwa [show 0x100 * ((0 : ChanIx).val / 3) + low = low from Nat.zero_add low] at h

/-- The data byte of a high frequency write is the latch layout of R90, bits 7:6 clear. -/
theorem latchByte_fields (block : BitVec 3) (fnum : BitVec 11) :
    (BitVec.ofNat 8 (block.toNat * 2 ^ 3 + fnum.toNat / 2 ^ 8)).extractLsb' 3 3 = block ∧
      (BitVec.ofNat 8 (block.toNat * 2 ^ 3 + fnum.toNat / 2 ^ 8)).extractLsb' 0 3 = fnum.extractLsb' 8 3 := by
  constructor <;> apply BitVec.eq_of_toNat_eq <;>
    simp only [BitVec.extractLsb'_toNat, BitVec.toNat_ofNat, Nat.shiftRight_eq_div_pow] <;> omega

theorem ofNat_fnum_mod (fnum : BitVec 11) : BitVec.ofNat 8 (fnum.toNat % 2 ^ 8) = fnum.extractLsb' 0 8 := by
  apply BitVec.eq_of_toNat_eq
  simp

/-- R220: any of the eight high-write registers, in either bank, latches the block and the upper bits of an fnum. -/
theorem decode_latchWord (bank : BitVec 1) {r : Byte} (block : BitVec 3) (fnum : BitVec 11)
    (hr : 0xA0#8 ≤ r ∧ r ≤ 0xAF#8) (hhi : r.extractLsb' 2 1 = 1#1) :
    decode (writeWord bank r (BitVec.ofNat 8 (block.toNat * 2 ^ 3 + fnum.toNat / 2 ^ 8))) =
      .ok (.wrFnumHi block (fnum.extractLsb' 8 3)) := by
  obtain ⟨hblock, hfnum⟩ := latchByte_fields block fnum
  rw [decode_writeWord, decodeWrite_of_fnumHi hr hhi, hblock, hfnum]

theorem decode_setFreq (c : ChanIx) (block : BitVec 3) (fnum : BitVec 11) :
    (setFreq c block fnum).map decode =
      [.ok (.wrFnumHi block (fnum.extractLsb' 8 3)), .ok (.wrFnumLo c (fnum.extractLsb' 0 8))] := by
  have hfunction : BitVec.ofNat 8 (c.val % 3 + 0xA0) = 0x28#6 ++ selectorOf c := by revert c; decide
  have hhi : decode (hostWrite (0x100 * (c.val / 3) + c.val % 3 + 0xA4) (block.toNat * 2 ^ 3 + fnum.toNat / 2 ^ 8)) =
      .ok (.wrFnumHi block (fnum.extractLsb' 8 3)) := by
    rw [Nat.add_assoc, hostWrite_of_channel c (by omega)]
    exact decode_latchWord _ block fnum (by revert c; decide) (by revert c; decide)
  have hlo : decode (hostWrite (0x100 * (c.val / 3) + c.val % 3 + 0xA0) (fnum.toNat % 2 ^ 8)) =
      .ok (.wrFnumLo c (fnum.extractLsb' 0 8)) := by
    rw [Nat.add_assoc, hostWrite_of_channel c (by omega), hfunction, ofNat_fnum_mod]
    exact decode_channelWord_fnumLo c _
  simp only [setFreq, List.map, hhi, hlo]

theorem decode_setFreq3 (k : OverrideIx) (block : BitVec 3) (fnum : BitVec 11) :
    (setFreq3 k block fnum).map decode =
      [.ok (.wrFnumHi block (fnum.extractLsb' 8 3)), .ok (.wrCh3FnumLo k (fnum.extractLsb' 0 8))] := by
  have hfunction : BitVec.ofNat 8 (0xA8 + k.val) = 0x2A#6 ++ BitVec.ofNat 2 k.val := by revert k; decide
  have hhi : decode (hostWrite (0xAC + k.val) (block.toNat * 2 ^ 3 + fnum.toNat / 2 ^ 8)) =
      .ok (.wrFnumHi block (fnum.extractLsb' 8 3)) := by
    rw [hostWrite_of_bank_zero (by omega)]
    exact decode_latchWord _ block fnum (by revert k; decide) (by revert k; decide)
  have hlo : decode (hostWrite (0xA8 + k.val) (fnum.toNat % 2 ^ 8)) =
      .ok (.wrCh3FnumLo k (fnum.extractLsb' 0 8)) := by
    rw [hostWrite_of_bank_zero (by omega), hfunction, ofNat_fnum_mod]
    exact decode_ch3FnumLo _ k _
  simp only [setFreq3, List.map, hhi, hlo]

theorem decode_key (c : ChanIx) (mask : BitVec 4) : (key c mask).map decode = [.ok (.wrKey c mask)] := by
  have hword : hostWrite 0x28 (mask.toNat * 2 ^ 4 + c.val / 3 * 2 ^ 2 + c.val % 3) = encode (.wrKey c mask) := by
    revert c mask; decide
  rw [key, List.map, List.map, hword, decode_wrKey]

/-- R97: the host word of `opreg` is the encoder's word of the operator register. -/
theorem decode_opReg {digit : BitVec 4} (c : ChanIx) (s : Slot) (v : Byte) (hlo : 3#4 ≤ digit) (hhi : digit ≤ 8#4) :
    (opReg (16 * digit.toNat) c s v).map decode = [.ok (decodeOperatorWrite c s digit v)] := by
  have hdigit : digit.toNat ≤ 8 := hhi
  have hfunction : BitVec.ofNat 8 (16 * digit.toNat + c.val % 3 + 4 * (s.val / 2) + 8 * (s.val % 2)) =
      digit ++ slotBitsOf s ++ selectorOf c := by revert digit c s; decide
  have hword :
      hostWrite (0x100 * (c.val / 3) + 16 * digit.toNat + c.val % 3 + 4 * (s.val / 2) + 8 * (s.val % 2)) v.toNat =
        operatorWord digit c s v := by
    have hassoc : 0x100 * (c.val / 3) + 16 * digit.toNat + c.val % 3 + 4 * (s.val / 2) + 8 * (s.val % 2) =
        0x100 * (c.val / 3) + (16 * digit.toNat + c.val % 3 + 4 * (s.val / 2) + 8 * (s.val % 2)) := by omega
    rw [hassoc, hostWrite_of_channel c (by omega), hfunction, BitVec.ofNat_toNat, BitVec.setWidth_eq, operatorWord]
  rw [opReg, List.map, List.map, hword, decode_operatorWord c s v hlo hhi]

/-- Settles O10: the host words are WRITE words of the registers the commands have. -/
theorem pseudoCommandsExpandToTheirCommands : Obligations.PseudoCommandsExpandToTheirCommands :=
  ⟨decode_setFreq, decode_setFreq3, decode_key, fun _ c s v hlo hhi => decode_opReg c s v hlo hhi⟩

end Sys2Proof.Machine
end

section
/-! PROOFS. The decoder held against the opcode table (INDEX.md): a word fits a pattern field by field, no two rows of
priority 0 meet, and each register group has its row; then the obligation that follows (O3). -/

namespace Sys2Proof

/-! ### Patterns, field by field -/

/-- A word is its kind, bank, function byte and data byte (R82). -/
theorem word_ext {x y : CommandWord} (hkind : x.extractLsb' 17 2 = y.extractLsb' 17 2)
    (hbank : x.extractLsb' 16 1 = y.extractLsb' 16 1) (hfunction : x.extractLsb' 8 8 = y.extractLsb' 8 8)
    (hdata : x.extractLsb' 0 8 = y.extractLsb' 0 8) : x = y := by
  have hx := x.isLt
  have hy := y.isLt
  simp only [← BitVec.toNat_inj, BitVec.extractLsb'_toNat, Nat.shiftRight_eq_div_pow] at *
  omega

/-- R82: a word of kind 0b00 is the WRITE word of its fields. -/
theorem eq_writeWord_of_kind {w : CommandWord} (h : w.extractLsb' 17 2 = 0#2) :
    w = writeWord (w.extractLsb' 16 1) (w.extractLsb' 8 8) (w.extractLsb' 0 8) :=
  word_ext (by rw [h, writeWord_kind]) (by simp) (by simp) (by simp)

theorem fits_iff_fields (p : Pattern) (w : CommandWord) :
    p.fits w = true ↔
      w.extractLsb' 17 2 &&& p.mask.extractLsb' 17 2 = p.value.extractLsb' 17 2 ∧
      w.extractLsb' 16 1 &&& p.mask.extractLsb' 16 1 = p.value.extractLsb' 16 1 ∧
      w.extractLsb' 8 8 &&& p.mask.extractLsb' 8 8 = p.value.extractLsb' 8 8 ∧
      w.extractLsb' 0 8 &&& p.mask.extractLsb' 0 8 = p.value.extractLsb' 0 8 := by
  simp only [Pattern.fits, beq_iff_eq, ← BitVec.extractLsb'_and]
  refine ⟨fun h => ?_, fun ⟨hkind, hbank, hfunction, hdata⟩ => word_ext hkind hbank hfunction hdata⟩
  rw [h]
  exact ⟨rfl, rfl, rfl, rfl⟩

/-- A row covers a word when its pattern fits and none of its exclude list does (INDEX.md). -/
theorem covers_iff (row : OpcodeRow) (w : CommandWord) :
    row.covers w = true ↔ row.pattern.fits w = true ∧ ∀ p ∈ row.exclude, ¬ p.fits w = true := by
  simp [OpcodeRow.covers]

/-! ### No two rows of priority 0 cover one word -/

/-- Two patterns ask for different values of one bit that both of them read. -/
def Pattern.disagree (p q : Pattern) : Bool := p.value &&& p.mask &&& q.mask != q.value &&& p.mask &&& q.mask

theorem not_fits_of_disagree {p q : Pattern} {w : CommandWord} (h : p.disagree q = true) (hp : p.fits w = true) :
    ¬ q.fits w = true := by
  intro hq
  simp only [Pattern.fits, beq_iff_eq] at hp hq
  refine bne_iff_ne.mp h ?_
  rw [← hp, ← hq]
  ext i
  simp [Bool.and_assoc, Bool.and_left_comm]

theorem priorityRows_disagree :
    ∀ a ∈ priorityRows, ∀ b ∈ priorityRows, a = b ∨ a.pattern.disagree b.pattern = true := by
  decide

/-- INDEX.md: the rows of priority 0 never overlap. -/
theorem row_unique {w : CommandWord} {a b : OpcodeRow} (ha : a ∈ priorityRows) (hb : b ∈ priorityRows)
    (hca : a.covers w = true) (hcb : b.covers w = true) : a = b := by
  obtain ⟨hfa, -⟩ := (covers_iff a w).mp hca
  obtain ⟨hfb, -⟩ := (covers_iff b w).mp hcb
  exact (priorityRows_disagree a ha b hb).resolve_right fun h => not_fits_of_disagree h hfa hfb

/-! ### The mnemonic of a word -/

theorem tableMnemonic_of_row {w : CommandWord} {row : OpcodeRow} (hrow : row ∈ priorityRows)
    (hc : row.covers w = true) : tableMnemonic w = some row.mnemonic := by
  have hsome : (priorityRows.find? (·.covers w)).isSome := List.find?_isSome.mpr ⟨row, hrow, hc⟩
  obtain ⟨found, hfound⟩ := Option.isSome_iff_exists.mp hsome
  have hcovers : found.covers w = true := List.find?_some (p := fun x : OpcodeRow => x.covers w) hfound
  have heq : found = row := row_unique (List.mem_of_find?_eq_some hfound) hrow hcovers hc
  rw [tableMnemonic, List.find?_append, hfound, heq]
  rfl

theorem tableMnemonic_of_no_row {w : CommandWord} (h : ∀ row ∈ priorityRows, ¬ row.covers w = true) :
    tableMnemonic w = if ignoreRow.covers w then some ignoreRow.mnemonic else none := by
  have hnone : priorityRows.find? (·.covers w) = none := List.find?_eq_none.mpr h
  rw [tableMnemonic, List.find?_append, hnone]
  cases hc : ignoreRow.covers w <;> simp [hc]

/-! ### The row of each register group -/

section Bytes
variable {r : Byte}

theorem and_highDigit (r : Byte) : r &&& 0xF0#8 = r.extractLsb' 4 4 ++ 0#4 := by
  revert r
  decide

/-- A function byte whose selector is not 3 meets no exclude entry: each asks for selector 3. -/
theorem and_ne_of_selector {m x : Byte} (hsel : r.extractLsb' 0 2 ≠ 3#2) (hm : m.extractLsb' 0 2 = 3#2)
    (hx : x.extractLsb' 0 2 = 3#2) : r &&& m ≠ x := by
  intro h
  have hand : r.extractLsb' 0 2 &&& 3#2 = 3#2 := by rw [← hm, ← BitVec.extractLsb'_and, h, hx, hm]
  exact hsel (BitVec.and_allOnes.symm.trans hand)

end Bytes

/-- The registers that are neither WR_KEY's nor in R93's list are ignored for no data byte. -/
theorem ignoredWrite_eq_false {r v : Byte} (h : (unmappedFunction r || noSuchChannel r || r == 0x28#8) = false) :
    ignoredWrite r v = false := by
  simp only [Bool.or_eq_false_iff] at h
  obtain ⟨⟨hunmapped, hchannel⟩, hkey⟩ := h
  simp [ignoredWrite, noSuchKeyChannel, hunmapped, hchannel, hkey]

theorem and_selector_eq_three (v : Byte) : v &&& 3#8 = 3#8 ↔ v.extractLsb' 0 2 = 3#2 := by
  revert v
  decide

/-- A row of priority 0 covers no WRITE that R93 lists. -/
theorem not_ignored_of_covers {bank : BitVec 1} {r v : Byte} {row : OpcodeRow} (hrow : row ∈ priorityRows)
    (hc : row.covers (writeWord bank r v) = true) : ignoredWrite r v = false := by
  simp only [priorityRows, operatorRows, otherRows, List.mem_append, List.mem_cons, List.not_mem_nil, or_false] at hrow
  rw [covers_iff] at hc
  obtain (rfl | rfl | rfl | rfl | rfl | rfl) | rfl | rfl | rfl | rfl | rfl | rfl | rfl | rfl | rfl := hrow <;>
    simp [fits_iff_fields] at hc
  case inr.inr.inl =>
    obtain ⟨hr, hsel⟩ := hc
    have hkey : r = 0x28#8 := BitVec.and_allOnes.symm.trans hr
    rw [and_selector_eq_three] at hsel
    subst hkey
    simp [ignoredWrite, noSuchKeyChannel, hsel hr]
    decide
  all_goals exact ignoredWrite_eq_false (by revert r; decide)

section Groups
variable {r : Byte}

/-! The function bits the rows of the frequency and channel registers read. -/

theorem and_fnumHi (hr : 0xA0#8 ≤ r ∧ r ≤ 0xAF#8) (hhi : r.extractLsb' 2 1 = 1#1) : r &&& 0xF4#8 = 0xA4#8 := by
  revert r
  decide

theorem and_ch3FnumLo (hr : 0xA0#8 ≤ r ∧ r ≤ 0xAF#8) (hlo : r.extractLsb' 2 1 ≠ 1#1) (h3 : r.extractLsb' 3 1 = 1#1) :
    r &&& 0xFC#8 = 0xA8#8 := by
  revert r
  decide

theorem and_fnumLo (hr : 0xA0#8 ≤ r ∧ r ≤ 0xA3#8) : r &&& 0xFC#8 = 0xA0#8 := by
  revert r
  decide

theorem and_algFb (hr : 0xB0#8 ≤ r ∧ r ≤ 0xB3#8) : r &&& 0xFC#8 = 0xB0#8 := by
  revert r
  decide

theorem and_pan (hr : 0xB4#8 ≤ r ∧ r ≤ 0xB7#8) : r &&& 0xFC#8 = 0xB4#8 := by
  revert r
  decide

end Groups

/-- Each register group has its row of priority 0. -/
theorem row_of_decodesTo {bank : BitVec 1} {r v : Byte} {i : Instr} (h : DecodesTo bank r v i)
    (hi : ignoredWrite r v = false) :
    ∃ row ∈ priorityRows, row.covers (writeWord bank r v) = true ∧ row.mnemonic = i.mnemonic := by
  have hrow (n : Fin 15)
      (hfits : priorityRows[n].pattern.fits (writeWord bank r v) = true ∧
        ∀ p ∈ priorityRows[n].exclude, ¬ p.fits (writeWord bank r v) = true)
      (hmnemonic : priorityRows[n].mnemonic = i.mnemonic) :
      ∃ row ∈ priorityRows, row.covers (writeWord bank r v) = true ∧ row.mnemonic = i.mnemonic :=
    ⟨_, List.getElem_mem _, (covers_iff ..).mpr hfits, hmnemonic⟩
  simp only [fits_iff_fields, writeWord_kind, writeWord_bank, writeWord_function, writeWord_data] at hrow
  cases h with
  | mode => exact hrow 6 (by simp [priorityRows, operatorRows, otherRows]) rfl
  | key _ c hsel =>
    exact hrow 7 (by simp [priorityRows, operatorRows, otherRows, and_selector_eq_three, hsel]) rfl
  | operator _ _ c hr hsel =>
    obtain hd | hd | hd | hd | hd | hd := digit_cases hr <;> rw [hd, decodeOperatorWrite] at hrow ⊢
    · exact hrow 0 (by simp [priorityRows, operatorRows, and_highDigit, hd, and_ne_of_selector hsel]) rfl
    · exact hrow 1 (by simp [priorityRows, operatorRows, and_highDigit, hd, and_ne_of_selector hsel]) rfl
    · exact hrow 2 (by simp [priorityRows, operatorRows, and_highDigit, hd, and_ne_of_selector hsel]) rfl
    · exact hrow 3 (by simp [priorityRows, operatorRows, and_highDigit, hd, and_ne_of_selector hsel]) rfl
    · exact hrow 4 (by simp [priorityRows, operatorRows, and_highDigit, hd, and_ne_of_selector hsel]) rfl
    · exact hrow 5 (by simp [priorityRows, operatorRows, and_highDigit, hd, and_ne_of_selector hsel]) rfl
  | fnumHi _ _ hr hhi => exact hrow 8 (by simp [priorityRows, operatorRows, otherRows, and_fnumHi hr hhi]) rfl
  | fnumLo _ _ c hr hlo h3 hsel =>
    have hand := and_fnumLo (fnumLo_range hr hlo h3)
    exact hrow 9 (by simp [priorityRows, operatorRows, otherRows, hand, and_ne_of_selector hsel]) rfl
  | ch3FnumLo _ _ hr hlo h3 =>
    exact hrow 10 (by simp [priorityRows, operatorRows, otherRows, and_ch3FnumLo hr hlo h3]) rfl
  | algFb _ _ c hr hsel =>
    exact hrow 11 (by simp [priorityRows, operatorRows, otherRows, and_algFb hr, and_ne_of_selector hsel]) rfl
  | pan _ _ c hr hsel =>
    exact hrow 12 (by simp [priorityRows, operatorRows, otherRows, and_pan hr, and_ne_of_selector hsel]) rfl
  | ignored _ _ hignored => simp [hi] at hignored

/-! ### The mnemonic of each kind of word -/

theorem tableMnemonic_writeWord (bank : BitVec 1) (r v : Byte) :
    tableMnemonic (writeWord bank r v) = some (decodeWrite bank r v).mnemonic := by
  cases hi : ignoredWrite r v with
  | false =>
    obtain ⟨row, hrow, hc, hm⟩ := row_of_decodesTo (decodesTo_decodeWrite bank r v) hi
    rw [tableMnemonic_of_row hrow hc, hm]
  | true =>
    have hno : ∀ row ∈ priorityRows, ¬ row.covers (writeWord bank r v) = true := fun row hrow hc => by
      simp [not_ignored_of_covers hrow hc] at hi
    have hignore : ignoreRow.covers (writeWord bank r v) = true := by
      simp [covers_iff, ignoreRow, fits_iff_fields]
    rw [tableMnemonic_of_no_row hno, if_pos hignore, decodeWrite_of_ignoredWrite hi]
    rfl

theorem tableMnemonic_sample {w : CommandWord} (h : w.extractLsb' 17 2 = 1#2) : tableMnemonic w = some "SAMPLE" :=
  tableMnemonic_of_row (row := priorityRows[13]) (List.getElem_mem _)
    ((covers_iff ..).mpr (by simp [priorityRows, operatorRows, otherRows, fits_iff_fields, h]))

theorem tableMnemonic_reset {w : CommandWord} (h : w.extractLsb' 17 2 = 2#2) : tableMnemonic w = some "RESET" :=
  tableMnemonic_of_row (row := priorityRows[14]) (List.getElem_mem _)
    ((covers_iff ..).mpr (by simp [priorityRows, operatorRows, otherRows, fits_iff_fields, h]))

/-- Every row reads both kind bits, and none asks for 0b11. -/
theorem rows_kind : ∀ row ∈ priorityRows ++ [ignoreRow],
    3#2 &&& row.pattern.mask.extractLsb' 17 2 ≠ row.pattern.value.extractLsb' 17 2 := by
  decide

theorem tableMnemonic_reserved {w : CommandWord} (h : w.extractLsb' 17 2 = 3#2) : tableMnemonic w = none := by
  have hno : ∀ row ∈ priorityRows ++ [ignoreRow], ¬ row.covers w = true := fun row hrow hc => by
    obtain ⟨hfits, -⟩ := (covers_iff row w).mp hc
    obtain ⟨hkind, -⟩ := (fits_iff_fields ..).mp hfits
    exact rows_kind row hrow (h ▸ hkind)
  simp [tableMnemonic, List.find?_eq_none.mpr hno]

/-- Settles O3: kind by kind, and for a WRITE by the row of its register group. -/
theorem decoderAgreesWithOpcodeTable : Obligations.DecoderAgreesWithOpcodeTable := by
  refine ⟨fun w => ?_, fun w a b ha hb hca hcb => row_unique ha hb hca hcb⟩
  obtain hkind | hkind | hkind | hkind := kind_cases w
  · rw [eq_writeWord_of_kind hkind, decode_writeWord]
    exact tableMnemonic_writeWord ..
  · rw [decode_of_kind_sample hkind]
    exact tableMnemonic_sample hkind
  · rw [decode_of_kind_reset hkind]
    exact tableMnemonic_reset hkind
  · rw [decode_of_kind_reserved hkind]
    exact tableMnemonic_reserved hkind

end Sys2Proof
end

section
/-! PROOFS. What counts of a WRITE: the word the encoder gives for the command a WRITE decodes to keeps exactly the
named bits of its data byte, its bank where the register is not device-scoped, and its register up to the aliases of
R90; then the obligations that follow (O6, O7). -/

namespace Sys2Proof.Machine

/-! ### The word of a decoded WRITE -/

/-- The bank the encoder writes for a register: 0 where the register is device-scoped. -/
def encodedBank (bank : BitVec 1) (r : Byte) : BitVec 1 :=
  if r = 0x27#8 ∨ r = 0x28#8 ∨ (0xA4#8 ≤ r ∧ r ≤ 0xAF#8) then 0#1 else bank

/-- The register the encoder writes for a function byte: the first of the high-write registers and of each override's
registers, and itself elsewhere. -/
def encodedRegister (r : Byte) : Byte :=
  if 0xA0#8 ≤ r ∧ r ≤ 0xAF#8 then
    if r.extractLsb' 2 1 = 1#1 then 0xA4#8
    else if r.extractLsb' 3 1 = 1#1 then 0x2A#6 ++ BitVec.ofNat 2 (overrideIndex r).val
    else r
  else r

/-- R85 inverted: a channel names the bank and the selector it came from. -/
theorem bankOf_selectorOf_of_chanIndex {bank : BitVec 1} {cs : BitVec 2} {c : ChanIx} (h : chanIndex bank cs = some c) :
    bankOf c = bank ∧ selectorOf c = cs := by
  revert bank cs c
  decide

/-- R86 inverted: the function byte of an operator register is its digit, its slot bits and its selector. -/
theorem operatorRegister_eq (r : Byte) :
    r.extractLsb' 4 4 ++ slotBitsOf (slotIndex r) ++ r.extractLsb' 0 2 = r := by
  revert r
  decide

/-- The named bits of an operator register, by its digit (R88). -/
def operatorMask (digit : BitVec 4) : Byte :=
  if digit = 5#4 then 0xDF#8
  else if digit = 6#4 ∨ digit = 7#4 then 0x1F#8
  else if digit = 8#4 then 0xFF#8
  else 0x7F#8

section Registers
variable {bank : BitVec 1} {r : Byte}

theorem operator_register (hr : 0x30#8 ≤ r ∧ r ≤ 0x8F#8) :
    encodedBank bank r = bank ∧ encodedRegister r = r ∧ namedBits r = operatorMask (r.extractLsb' 4 4) := by
  revert bank r
  decide

theorem fnumHi_register (hr : 0xA0#8 ≤ r ∧ r ≤ 0xAF#8) (hhi : r.extractLsb' 2 1 = 1#1) :
    encodedBank bank r = 0#1 ∧ encodedRegister r = 0xA4#8 ∧ namedBits r = 0x3F#8 := by
  revert bank r
  decide

theorem ch3FnumLo_register (hr : 0xA0#8 ≤ r ∧ r ≤ 0xAF#8) (hlo : r.extractLsb' 2 1 ≠ 1#1)
    (h3 : r.extractLsb' 3 1 = 1#1) :
    encodedBank bank r = 0#1 ∧ encodedRegister r = 0x2A#6 ++ BitVec.ofNat 2 (overrideIndex r).val ∧
      namedBits r = 0xFF#8 := by
  revert bank r
  decide

/-- The registers of a channel: the bank counts, and the function byte is its group and its selector (R85). -/
theorem channel_register {group : BitVec 6} (hgroup : r.extractLsb' 2 6 = group)
    (hg : group = 0x28#6 ∨ group = 0x2C#6 ∨ group = 0x2D#6) :
    encodedBank bank r = bank ∧ encodedRegister r = group ++ r.extractLsb' 0 2 ∧
      namedBits r = if group = 0x28#6 then 0xFF#8 else if group = 0x2C#6 then 0x3F#8 else 0xC0#8 := by
  subst hgroup
  revert bank r
  decide

end Registers

/-! The data bytes of the layouts of R88 to R92: the fields in their places, the other bits 0. -/

section Layouts
variable (v : Byte)

theorem layout_mode : v.extractLsb' 6 2 ++ 0#6 = v &&& 0xC0#8 := by
  revert v; decide

theorem layout_key : v.extractLsb' 4 4 ++ 0#1 ++ v.extractLsb' 2 1 ++ v.extractLsb' 0 2 = v &&& 0xF7#8 := by
  revert v; decide

theorem layout_dtMul : 0#1 ++ v.extractLsb' 4 3 ++ v.extractLsb' 0 4 = v &&& 0x7F#8 := by
  revert v; decide

theorem layout_tl : 0#1 ++ v.extractLsb' 0 7 = v &&& 0x7F#8 := by
  revert v; decide

theorem layout_ksAr : v.extractLsb' 6 2 ++ 0#1 ++ v.extractLsb' 0 5 = v &&& 0xDF#8 := by
  revert v; decide

theorem layout_rate : 0#3 ++ v.extractLsb' 0 5 = v &&& 0x1F#8 := by
  revert v; decide

theorem layout_slRr : v.extractLsb' 4 4 ++ v.extractLsb' 0 4 = v &&& 0xFF#8 := by
  revert v; decide

theorem layout_triples : 0#2 ++ v.extractLsb' 3 3 ++ v.extractLsb' 0 3 = v &&& 0x3F#8 := by
  revert v; decide

theorem layout_pan : BitVec.ofBool (v.getLsbD 7) ++ BitVec.ofBool (v.getLsbD 6) ++ 0#6 = v &&& 0xC0#8 := by
  revert v; decide

end Layouts

/-- The encoder's word for an operator write is its register with the named bits of the data byte. -/
theorem encode_decodeOperatorWrite (c : ChanIx) (s : Slot) (v : Byte) {digit : BitVec 4}
    (hd : digit = 3#4 ∨ digit = 4#4 ∨ digit = 5#4 ∨ digit = 6#4 ∨ digit = 7#4 ∨ digit = 8#4) :
    encode (decodeOperatorWrite c s digit v) = operatorWord digit c s (v &&& operatorMask digit) := by
  obtain rfl | rfl | rfl | rfl | rfl | rfl := hd
  · exact congrArg (operatorWord 3#4 c s) (layout_dtMul v)
  · exact congrArg (operatorWord 4#4 c s) (layout_tl v)
  · exact congrArg (operatorWord 5#4 c s) (layout_ksAr v)
  · exact congrArg (operatorWord 6#4 c s) (layout_rate v)
  · exact congrArg (operatorWord 7#4 c s) (layout_rate v)
  · exact congrArg (operatorWord 8#4 c s) (layout_slRr v)

/-- The encoder's word for the command of a WRITE: the named bits of its data byte, and nothing else of it. -/
theorem encode_of_decodesTo {bank : BitVec 1} {r v : Byte} {i : Instr} (h : DecodesTo bank r v i)
    (hi : ignoredWrite r v = false) :
    encode i = writeWord (encodedBank bank r) (encodedRegister r) (v &&& namedBits r) := by
  cases h with
  | mode => exact congrArg (writeWord 0#1 0x27#8) (layout_mode v)
  | key _ c hsel hc =>
    obtain ⟨hbank, hselector⟩ := bankOf_selectorOf_of_chanIndex hc
    rw [encode, hbank, hselector, layout_key]
    rfl
  | operator _ _ c hr hsel hc =>
    obtain ⟨hbank, hselector⟩ := bankOf_selectorOf_of_chanIndex hc
    obtain ⟨hb, hregister, hnamed⟩ := operator_register (bank := bank) hr
    rw [encode_decodeOperatorWrite _ _ _ (digit_cases hr), operatorWord, hbank, hselector, operatorRegister_eq, hb,
      hregister, hnamed]
  | fnumHi _ _ hr hhi =>
    obtain ⟨hb, hregister, hnamed⟩ := fnumHi_register (bank := bank) hr hhi
    rw [encode, layout_triples, hb, hregister, hnamed]
  | ch3FnumLo _ _ hr hlo h3 =>
    obtain ⟨hb, hregister, hnamed⟩ := ch3FnumLo_register (bank := bank) hr hlo h3
    rw [encode, hb, hregister, hnamed, show v &&& 0xFF#8 = v from BitVec.and_allOnes]
  | fnumLo _ _ c hr hlo h3 hsel hc =>
    obtain ⟨hbank, hselector⟩ := bankOf_selectorOf_of_chanIndex hc
    have hgroup : r.extractLsb' 2 6 = 0x28#6 := by clear hi hsel hc hselector; revert r; decide
    obtain ⟨hb, hregister, hnamed⟩ := channel_register (bank := bank) hgroup (.inl rfl)
    rw [encode, channelWord, hbank, hselector, hb, hregister, hnamed, if_pos rfl,
      show v &&& 0xFF#8 = v from BitVec.and_allOnes]
  | algFb _ _ c hr hsel hc =>
    obtain ⟨hbank, hselector⟩ := bankOf_selectorOf_of_chanIndex hc
    have hgroup : r.extractLsb' 2 6 = 0x2C#6 := by clear hi hsel hc hselector; revert r; decide
    obtain ⟨hb, hregister, hnamed⟩ := channel_register (bank := bank) hgroup (.inr (.inl rfl))
    rw [encode, channelWord, hbank, hselector, layout_triples, hb, hregister, hnamed]
    rfl
  | pan _ _ c hr hsel hc =>
    obtain ⟨hbank, hselector⟩ := bankOf_selectorOf_of_chanIndex hc
    have hgroup : r.extractLsb' 2 6 = 0x2D#6 := by clear hi hsel hc hselector; revert r; decide
    obtain ⟨hb, hregister, hnamed⟩ := channel_register (bank := bank) hgroup (.inr (.inr rfl))
    rw [encode, channelWord, hbank, hselector, layout_pan, hb, hregister, hnamed]
    rfl
  | ignored _ _ hignored => simp [hi] at hignored

/-- Two decoded writes are one command exactly where the encoder gives them one word. -/
theorem decodeWrite_eq_iff {bank bank' : BitVec 1} {r v v' : Byte} (h : ignoredWrite r v = false)
    (h' : ignoredWrite r v' = false) :
    decodeWrite bank r v = decodeWrite bank' r v' ↔
      encodedBank bank r = encodedBank bank' r ∧ v &&& namedBits r = v' &&& namedBits r := by
  have hwf (bank : BitVec 1) (v : Byte) : (decodeWrite bank r v).wellFormed = true :=
    decodedCommandsAreWellFormed (writeWord bank r v) _ (decode_writeWord ..)
  have hword := encode_of_decodesTo (decodesTo_decodeWrite bank r v) h
  have hword' := encode_of_decodesTo (decodesTo_decodeWrite bank' r v') h'
  constructor
  · intro heq
    rw [heq, hword'] at hword
    constructor
    · simpa using congrArg (·.extractLsb' 16 1) hword.symm
    · simpa using congrArg (·.extractLsb' 0 8) hword.symm
  · rintro ⟨hbank, hdata⟩
    rw [hbank, hdata, ← hword'] at hword
    exact Except.ok.inj (by
      rw [← decodeEncodeRoundTrip _ (hwf bank v), hword, decodeEncodeRoundTrip _ (hwf bank' v')])

/-- Settles O6: for one bank and register the words differ in the named bits alone. -/
theorem dataBytesCountOnlyByNamedBits : Obligations.DataBytesCountOnlyByNamedBits := by
  intro bank r v v' h h'
  simp [decodeWrite_eq_iff h h']

/-- Settles O7: for one register and data byte the words differ in the encoder's bank alone, which is 0 for a
device-scoped register. -/
theorem bankIsIgnoredForDeviceRegisters : Obligations.BankIsIgnoredForDeviceRegisters := by
  intro bank bank' r v h
  rw [decodeWrite_eq_iff h h, encodedBank, encodedBank]
  split
  case isTrue hdevice => simp [hdevice]
  case isFalse hdevice => simp [hdevice]

end Sys2Proof.Machine
end

section
/-! PROOFS. The register writes, result and frame (43_register_writes.md): what a write to one operator, to one
channel's operators and to the device fields leaves alone; then the obligations that follow (O11, O13, O15 to O18, O20
to O22, O28, O30, O34 to O36). -/

namespace Sys2Proof.Machine

/-! ### Frames -/

theorem Device.sameGlobals_refl (d : Device) : d.sameGlobals d := ⟨rfl, rfl, rfl, rfl, rfl, rfl, rfl⟩

/-- A write to one operator leaves everything outside it alone. -/
theorem onlyOperator_updateOp (c : ChanIx) (sl : Slot) (g : Operator → Operator) (s : State) :
    onlyOperator c sl s (s.updateDev fun d => d.updateOp c sl g) := by
  refine ⟨⟨rfl, rfl⟩, ⟨rfl, rfl, rfl, rfl, rfl, rfl, rfl⟩, fun c' => ⟨?_, ?_⟩, fun c' sl' hne => ?_⟩
  · exact Device.chan_updateChan_rel Channel.sameMemories_refl (Channel.sameMemories_refl _) c'
  · exact Device.chan_updateChan_rel Channel.sameParameters_refl (Channel.sameParameters_refl _) c'
  · rw [State.updateDev_dev, Device.op_updateOp, if_neg]
    rintro ⟨rfl, rfl⟩
    exact hne.elim (· rfl) (· rfl)

/-- A loop over the slots of one channel leaves everything outside its operators alone. -/
theorem onlyChannelOperators_mapOps (c : ChanIx) (k : Slot → Operator → Operator) (s : State) :
    onlyChannelOperators c s (s.updateDev fun d => d.updateChan c (·.mapOps k)) := by
  refine ⟨⟨rfl, rfl⟩, ⟨rfl, rfl, rfl, rfl, rfl, rfl, rfl⟩, fun c' hc => ?_, ?_, ?_⟩
  · exact Device.chan_updateChan_of_ne _ _ hc
  · rw [State.updateDev_dev, Device.chan_updateChan_self]
    exact Channel.sameMemories_refl _
  · rw [State.updateDev_dev, Device.chan_updateChan_self]
    exact Channel.sameParameters_refl _

/-- A write to the device fields leaves every channel alone. -/
theorem onlyGlobals_of_ch {s : State} {f : Device → Device} (h : (f s.dev).ch = s.dev.ch) :
    onlyGlobals s (s.updateDev f) := by
  refine ⟨⟨rfl, rfl⟩, fun c => ?_⟩
  simp only [Device.chan, State.updateDev_dev, h]

/-- An entry of a vector after one entry is set. -/
theorem getElem_set_fin {α : Type} {n : Nat} (xs : Vector α n) (i j : Fin n) (x : α) :
    (xs.set i x)[j] = if j = i then x else xs[j] := by
  simp only [Fin.getElem_fin, Vector.getElem_set, Fin.val_inj, eq_comm]

/-! ### The operators a write reaches -/

/-- An operator of the addressed channel after WR_KEY (R213). -/
theorem op_wrKey {c : ChanIx} {keys : BitVec 4} {s t : State} (h : exec (.wrKey c keys) s = .next t) (sl : Slot) :
    t.dev.op c sl = if keys.getLsbD sl.val then keyOn (s.dev.op c sl) else keyOff (s.dev.op c sl) := by
  cases h
  simp [Device.op, keySlots]

theorem keyOff_eq (o : Operator) :
    keyOff o = if o.keyon = false ∨ o.egState = .off then o else { o with keyon := false, egState := .release } := by
  unfold keyOff
  cases o.keyon <;> simp

/-! ### The obligations of tier 1 -/

/-- Settles O11: the step reads the head word alone. -/
theorem stepRunsTheDecodedCommand : Obligations.StepRunsTheDecodedCommand :=
  fun _ _ _ _ hc hd => step_of_decode hc hd

/-- Settles O13, command by command: a register write and RESET update the device alone. -/
theorem onlySampleEmitsAFrame : Obligations.OnlySampleEmitsAFrame := by
  intro i s t h
  cases i with
  | sample => cases h; exact ⟨rfl, rfl⟩
  | wrMode | wrKey | wrDtMul | wrTl | wrKsAr | wrDr | wrSr | wrSlRr | wrFnumHi | wrFnumLo | wrCh3FnumLo | wrAlgFb
  | wrPan | reset | ignore => cases h; exact ⟨rfl, rfl⟩

/-- R92: the mode of each of the four codes. -/
theorem ch3ModeOf_eq (mode : BitVec 2) :
    ch3ModeOf mode = (match mode.toNat with | 0 => .normal | 1 => .special | _ => .csm) := by
  revert mode
  decide

/-- Settles O15. -/
theorem modeWriteSetsTheMode : Obligations.ModeWriteSetsTheMode :=
  fun mode _ => ⟨_, rfl, ch3ModeOf_eq mode, onlyGlobals_of_ch rfl, rfl, rfl, rfl, rfl, rfl, rfl⟩

/-- Settles O16: each slot is keyed by its bit, and the loop over the slots writes operators alone. -/
theorem keyWriteKeysEachSlot : Obligations.KeyWriteKeysEachSlot := by
  refine fun c keys s => ⟨_, rfl, fun sl => ?_, onlyChannelOperators_mapOps c _ s⟩
  rw [op_wrKey (t := s.updateDev fun d => d.updateChan c (keySlots keys)) rfl, keyOff_eq]
  rfl

/-- Settles O17: all six are writes to one operator. -/
theorem operatorWritesStoreTheirFields : Obligations.OperatorWritesStoreTheirFields := by
  intro c sl s
  refine ⟨fun _ _ => ?_, fun _ => ?_, fun _ _ => ?_, fun _ => ?_, fun _ => ?_, fun _ _ => ?_⟩
  all_goals exact ⟨_, rfl, onlyOperator_updateOp .., Device.op_updateOp_self ..⟩

/-- Settles O18: the high write sets one device field, the low writes one channel's pair and one override's. -/
theorem frequencyWritesUseTheLatch : Obligations.FrequencyWritesUseTheLatch := by
  refine fun s => ⟨fun block fnumHi => ⟨_, rfl, onlyGlobals_of_ch rfl, rfl⟩, fun c fnumLo => ⟨_, rfl, ⟨rfl, rfl⟩,
    Device.sameGlobals_refl _, fun c' hc => Device.chan_updateChan_of_ne _ _ hc, Device.chan_updateChan_self ..⟩,
    fun k fnumLo => ⟨_, rfl, onlyGlobals_of_ch rfl, fun k' => ?_, fun k' => ?_, rfl, rfl, rfl, rfl, rfl⟩⟩
  · exact getElem_set_fin ..
  · exact getElem_set_fin ..

/-- Settles O20. -/
theorem panWriteSetsTwoBits : Obligations.PanWriteSetsTwoBits :=
  fun _ _ _ _ => ⟨_, rfl, fun _ => getElem_set_fin .., fun _ => getElem_set_fin .., onlyGlobals_of_ch rfl, rfl, rfl,
    rfl, rfl, rfl⟩

/-- Settles O21. -/
theorem ignoreChangesNothing : Obligations.IgnoreChangesNothing := exec_ignore

theorem Device.chan_reset (c : ChanIx) : Device.reset.chan c = Channel.reset := by
  simp [Device.chan, Device.reset]

theorem Device.op_reset (c : ChanIx) (sl : Slot) : Device.reset.op c sl = Operator.reset := by
  simp [Device.op, Device.chan_reset, Channel.op, Channel.reset]

/-- Settles O22: the device after RESET is the reset device, whose fields are the reset column. -/
theorem resetRestoresEveryField : Obligations.ResetRestoresEveryField := by
  refine fun s => ⟨_, rfl, ⟨rfl, rfl⟩, Device.op_reset, fun c => ?_, fun k => ?_, rfl, rfl, rfl⟩
  · rw [State.updateDev_dev, Device.chan_reset]
    exact ⟨rfl, rfl, rfl, rfl, rfl, rfl, rfl, Vector.getElem_replicate .., Vector.getElem_replicate ..⟩
  · exact ⟨Vector.getElem_replicate .., Vector.getElem_replicate ..⟩

/-! ### Who writes a tone parameter -/

theorem Operator.sameTone_refl (o : Operator) : o.sameTone o := ⟨rfl, rfl, rfl, rfl, rfl, rfl, rfl, rfl, rfl⟩

theorem sameTone_keyOn (o : Operator) : o.sameTone (keyOn o) := by
  unfold keyOn
  split <;> exact ⟨rfl, rfl, rfl, rfl, rfl, rfl, rfl, rfl, rfl⟩

theorem sameTone_keyOff (o : Operator) : o.sameTone (keyOff o) := by
  unfold keyOff
  split <;> exact ⟨rfl, rfl, rfl, rfl, rfl, rfl, rfl, rfl, rfl⟩

theorem sameTone_envelopeTick (cfg : Config) (kc : BitVec 5) (o : Operator) : o.sameTone (envelopeTick cfg kc o) := by
  rw [envelopeTick_eq]
  exact ⟨rfl, rfl, rfl, rfl, rfl, rfl, rfl, rfl, rfl⟩

section CommandRules
variable {i : Instr} {s t : State}

/-- An operator after a write to one operator: as before, or the written one. -/
theorem op_updateOp_cases {d : Device} {c c' : ChanIx} {sl sl' : Slot} {g : Operator → Operator} {p : Operator}
    (hp : p = (d.updateOp c' sl' g).op c sl) : p = d.op c sl ∨ (c' = c ∧ sl' = sl ∧ p = g (d.op c sl)) := by
  rw [Device.op_updateOp] at hp
  split at hp
  case isTrue hop => obtain ⟨rfl, rfl⟩ := hop; exact .inr ⟨rfl, rfl, hp⟩
  case isFalse => exact .inl hp

/-- The six commands that write tone parameters (R88). -/
def isOperatorWrite : Instr → Bool
  | .wrDtMul .. | .wrTl .. | .wrKsAr .. | .wrDr .. | .wrSr .. | .wrSlRr .. => true
  | _ => false

/-- A command that is neither RESET nor an operator-register write keeps every tone parameter (R28). -/
theorem sameTone_exec (c : ChanIx) (sl : Slot) (h : exec i s = .next t) (hr : i ≠ .reset)
    (hw : isOperatorWrite i = false) :
    (s.dev.op c sl).sameTone (t.dev.op c sl) := by
  cases i with
  | wrDtMul | wrTl | wrKsAr | wrDr | wrSr | wrSlRr => cases hw
  | wrKey c' keys =>
    cases h
    refine Device.chan_updateChan_rel (R := fun x y => (x.op sl).sameTone (y.op sl))
      (fun _ => Operator.sameTone_refl _) ?_ c
    rw [keySlots, Channel.op_mapOps]
    split
    · exact sameTone_keyOn _
    · exact sameTone_keyOff _
  | wrFnumLo | wrAlgFb =>
    cases h
    exact Device.chan_updateChan_rel (R := fun x y => (x.op sl).sameTone (y.op sl))
      (fun _ => Operator.sameTone_refl _) (Operator.sameTone_refl _) c
  | wrMode | wrFnumHi | wrCh3FnumLo | wrPan | ignore =>
    cases h
    exact Operator.sameTone_refl _
  | sample =>
    cases h
    rw [op_sampleDevice]
    split
    · exact sameTone_envelopeTick _ _ _
    · exact Operator.sameTone_refl _
  | reset => exact absurd rfl hr

end CommandRules

/-- Settles O28: an operator write gives its own fields to its own operator, and every other command keeps the tone. -/
theorem toneParametersAreWrittenOnlyByTheirCommands : Obligations.ToneParametersAreWrittenOnlyByTheirCommands := by
  intro i s t c sl h hr o p
  cases hw : isOperatorWrite i with
  | false =>
    obtain ⟨htl, hsl, har, hdr, hsr, hrr, hmul, hdet, hks⟩ := sameTone_exec c sl h hr hw
    exact ⟨.inl htl, .inl ⟨hsl, hrr⟩, .inl ⟨hks, har⟩, .inl hdr, .inl hsr, .inl ⟨hdet, hmul⟩⟩
  | true =>
    cases i with
    | wrDtMul | wrTl | wrKsAr | wrDr | wrSr | wrSlRr =>
      cases h
      obtain hop | ⟨rfl, rfl, hop⟩ := op_updateOp_cases (p := p) rfl <;> simp [hop, o]
    | _ => cases hw

/-! ### The divider and the running state -/

/-- The divider counts modulo 3 (R251). -/
theorem sampleDevice_envDiv_val (cfg : Config) (d : Device) :
    (sampleDevice cfg d).envDiv.val = (d.envDiv.val + 1) % 3 := by
  rw [sampleDevice_envDiv]
  generalize d.envDiv = n
  revert n
  decide

/-- Settles O30: the divider is one on modulo 3, and an operator's clock is that of its tick. -/
theorem envelopeDividerCountsSamples : Obligations.EnvelopeDividerCountsSamples := by
  refine fun i s t h hr => ⟨fun hs => ?_, fun hs => ?_⟩
  · cases i with
    | sample => exact absurd rfl hs
    | reset => exact absurd rfl hr
    | wrMode | wrKey | wrDtMul | wrTl | wrKsAr | wrDr | wrSr | wrSlRr | wrFnumHi | wrFnumLo | wrCh3FnumLo | wrAlgFb
    | wrPan | ignore => cases h; rfl
  · subst hs
    cases h
    refine ⟨sampleDevice_envDiv_val .., fun c sl => ?_⟩
    simp only [op_sampleDevice, advancePhase_egClock]
    split
    · rw [envelopeTick_eq]
    · rfl

theorem keyOff_phase (o : Operator) : (keyOff o).phase = o.phase := by
  unfold keyOff; split <;> rfl

theorem keyOff_egClock (o : Operator) : (keyOff o).egClock = o.egClock := by
  unfold keyOff; split <;> rfl

/-- Settles O34, by the three things a command can do to an operator. -/
theorem writesLeaveTheRunningStateAlone : Obligations.WritesLeaveTheRunningStateAlone := by
  intro i s t hw h
  have hr : i ≠ .reset := by rintro rfl; cases hw
  have hs : i ≠ .sample := by rintro rfl; cases hw
  refine ⟨(envelopeDividerCountsSamples i s t h hr).1 hs, fun c => sameMemories_exec c h hr hs, fun c sl => ?_⟩
  obtain ⟨hkey, hsame⟩ | ⟨on, hkey, hop⟩ | ⟨hsample, -⟩ := op_exec_cases c sl h hr
  · have ⟨_, henv, _⟩ := hsame
    exact ⟨henv, fun _ => hsame, fun hoff => by simp [hkey] at hoff⟩
  · cases on with
    | true => exact ⟨by simp [hop], fun hnone => by simp [hkey] at hnone, fun hoff => by simp [hkey] at hoff⟩
    | false =>
      exact ⟨by simp [hop], fun hnone => by simp [hkey] at hnone, fun _ => by simp [hop, keyOff_phase, keyOff_egClock]⟩
  · exact absurd hsample hs

/-! ### Repeated commands -/

theorem Device.updateChan_updateChan (d : Device) (c : ChanIx) (f g : Channel → Channel) :
    (d.updateChan c f).updateChan c g = d.updateChan c (g ∘ f) := by
  simp [Device.updateChan, Device.chan]

theorem Channel.updateOp_updateOp (x : Channel) (sl : Slot) (f g : Operator → Operator) :
    (x.updateOp sl f).updateOp sl g = x.updateOp sl (g ∘ f) := by
  simp [Channel.updateOp, Channel.op]

theorem Channel.mapOps_mapOps (x : Channel) (f g : Slot → Operator → Operator) :
    (x.mapOps f).mapOps g = x.mapOps fun sl => g sl ∘ f sl := by
  simp [Channel.mapOps, Channel.op]

/-- A write to one channel that is idempotent there is idempotent on the device. -/
theorem Device.updateChan_idem {c : ChanIx} {f : Channel → Channel} (hf : ∀ x, f (f x) = f x) (d : Device) :
    (d.updateChan c f).updateChan c f = d.updateChan c f := by
  rw [Device.updateChan_updateChan, show f ∘ f = f from funext hf]

theorem Channel.updateOp_idem {sl : Slot} {g : Operator → Operator} (hg : ∀ o, g (g o) = g o) (x : Channel) :
    (x.updateOp sl g).updateOp sl g = x.updateOp sl g := by
  rw [Channel.updateOp_updateOp, show g ∘ g = g from funext hg]

theorem keyOn_idem (o : Operator) : keyOn (keyOn o) = keyOn o := by
  rw [keyOn, if_pos (keyOn_keyon o)]

theorem keyOff_idem (o : Operator) : keyOff (keyOff o) = keyOff o := by
  rw [keyOff_eq o]
  split
  case isTrue h => rw [keyOff_eq, if_pos h]
  case isFalse => rfl

theorem keySlots_idem (keys : BitVec 4) (x : Channel) : keySlots keys (keySlots keys x) = keySlots keys x := by
  unfold keySlots
  rw [Channel.mapOps_mapOps]
  congr 1
  funext sl o
  simp only [Function.comp_apply]
  split
  · exact keyOn_idem o
  · exact keyOff_idem o

/-- Settles O35: what a write stores, and the reset device, do not depend on what stood there; a key event is
idempotent. -/
theorem repeatedWritesAreNoOps : Obligations.RepeatedWritesAreNoOps := by
  intro i s t hs h
  have hnext {f : Device → Device} (hf : f (f s.dev) = f s.dev) :
      Host.Outcome.next (φ := Fault) (ρ := Refusal) ((s.updateDev f).updateDev f) = .next (s.updateDev f) := by
    simp [State.updateDev, hf]
  cases i with
  | sample => exact absurd rfl hs
  | wrKey c keys => cases h; exact hnext (Device.updateChan_idem (keySlots_idem keys) _)
  | wrDtMul | wrTl | wrKsAr | wrDr | wrSr | wrSlRr =>
    cases h
    exact hnext (Device.updateChan_idem (Channel.updateOp_idem (by intro o; rfl)) _)
  | wrFnumLo | wrAlgFb => cases h; exact hnext (Device.updateChan_idem (by intro x; rfl) _)
  | wrCh3FnumLo | wrPan => cases h; exact hnext (by simp)
  | wrMode | wrFnumHi | reset | ignore => cases h; rfl

/-! ### Retrigger -/

theorem keyOn_of_not_on {o : Operator} (h : o.keyon = false) :
    keyOn o = { o with keyon := true, egState := .attack, phase := 0#20, egClock := 0#32 } := by
  simp [keyOn, h]

/-- R158 after R159: whatever the key-off did, the key-on after it finds the note not held. -/
theorem keyOn_keyOff_of_inv {o : Operator} (hi : o.Inv) :
    keyOn (keyOff o) = { o with keyon := true, egState := .attack, phase := 0#20, egClock := 0#32 } := by
  rw [keyOn_of_not_on (keyOff_keyon_of_inv hi), keyOff_eq]
  split <;> rfl

/-- Settles O36. -/
theorem keyOffThenKeyOnRestartsTheNote : Obligations.KeyOffThenKeyOnRestartsTheNote := by
  refine ⟨fun c sl offKeys onKeys s t u hi hoff hon h h' => ?_, fun c sl onKeys s t hheld hon h => ?_⟩
  · rw [op_wrKey h', if_pos hon, op_wrKey h, hoff, if_neg (by simp), keyOn_keyOff_of_inv hi]
  · rw [op_wrKey h, if_pos hon, keyOn, if_pos hheld]

end Sys2Proof.Machine
end

section
/-! PROOFS. The operator datapath (40_operator.md): the bound of the default antilog table, the output in integers,
and the phase increment; then the obligations that follow (O47 to O50). -/

namespace Sys2Proof.Machine

/-! ### The bound of the default tables -/

/-- An entry of a table of rows is at most what every written entry is. -/
theorem tableEntry_le {rows : List (List Nat)} {bound : Nat} (h : ∀ row ∈ rows, ∀ x ∈ row, x ≤ bound) (i j : Nat) :
    tableEntry rows i j ≤ bound := by
  have hrow : ∀ x ∈ rows.getD i [], x ≤ bound := by
    rw [List.getD_eq_getElem?_getD]
    cases hi : rows[i]? with
    | none => simp
    | some row => exact h row (List.mem_of_getElem? hi)
  rw [tableEntry, List.getD_eq_getElem?_getD]
  cases hj : (rows.getD i [])[j]? with
  | none => exact Nat.zero_le _
  | some x => exact hrow x (List.mem_of_getElem? hj)

/-- R121: no entry of the antilog table passes 2042. -/
theorem expDefault_le (i : BitVec 8) : (expDefault i).toNat ≤ 2042 :=
  (Nat.mod_le _ _).trans (tableEntry_le (by decide) _ _)

/-- R123: four times the largest antilog entry bounds every magnitude. -/
theorem magnitude_default_le (l : Nat) : magnitude defaultConfig l ≤ 8168 := by
  have hexp : (defaultConfig.expTab (BitVec.ofNat 8 l)).toNat ≤ 2042 := expDefault_le _
  exact (Nat.div_le_self _ _).trans (by omega)

/-- R123: under the default tables no operator output passes 8168. -/
theorem opOut_within (o : Operator) (m : Int) : withinOutput (opOut defaultConfig o m).toInt := by
  have hmag := magnitude_default_le
    (attenuation defaultConfig (quarterIndex (waveIndex o.phase m)) o.env o.tl)
  rw [withinOutput, opOut_toInt]
  split <;> omega

/-! ### The output in integers -/

theorem getLsbD_eq_decide {w : Nat} (p : BitVec w) (i : Nat) : p.getLsbD i = decide (p.toNat / 2 ^ i % 2 = 1) := by
  rw [BitVec.getLsbD, Nat.testBit_eq_decide_div_mod_eq]

/-- R117 in integers: the upper ten bits of the phase and the modulation, modulo 1024. -/
theorem waveIndex_toNat (phase : BitVec 20) (m : Int) :
    ((waveIndex phase m).toNat : Int) = (((phase.toNat / 1024 : Nat) : Int) + m) % 1024 := by
  have hphase := phase.isLt
  have hupper : (phase.extractLsb' 10 10).toNat = phase.toNat / 1024 := by
    rw [BitVec.extractLsb'_toNat, Nat.shiftRight_eq_div_pow]
    omega
  rw [waveIndex, hupper, BitVec.toNat_ofInt]
  omega

/-- R118 in integers: the index within a quarter, running back in the second and fourth. -/
def foldedIndex (p : Int) : Int := if p % 512 < 256 then p % 256 else 255 - p % 256

theorem quarterIndex_eq (p : BitVec 10) : quarterIndex p = BitVec.ofInt 8 (foldedIndex p.toNat) := by
  have hp := p.isLt
  apply BitVec.eq_of_toNat_eq
  rw [quarterIndex, getLsbD_eq_decide, BitVec.toNat_ofInt, foldedIndex]
  split <;> split <;> simp [BitVec.extractLsb'_toNat] at * <;> omega

/-- R118 to R120 in integers: the magnitude at an index of the period. -/
def magnitudeAt (cfg : Config) (o : Operator) (p : Int) : Nat :=
  let l := (cfg.logsinTab (BitVec.ofInt 8 (foldedIndex p))).toNat + 4 * o.env.toNat + 32 * o.tl.toNat
  (cfg.expTab (BitVec.ofNat 8 (l % 256))).toNat * 4 / 2 ^ min (l / 256) 13

theorem magnitude_eq_magnitudeAt (cfg : Config) (o : Operator) (p : BitVec 10) :
    magnitude cfg (attenuation cfg (quarterIndex p) o.env o.tl) = magnitudeAt cfg o p.toNat := by
  have hl : attenuation cfg (quarterIndex p) o.env o.tl =
      (cfg.logsinTab (BitVec.ofInt 8 (foldedIndex p.toNat))).toNat + 4 * o.env.toNat + 32 * o.tl.toNat := by
    rw [attenuation, quarterIndex_eq]
    omega
  have hmod (l : Nat) : BitVec.ofNat 8 (l % 256) = BitVec.ofNat 8 l := BitVec.eq_of_toNat_eq (by simp)
  rw [hl, magnitude, magnitudeAt]
  simp only [hmod]
  rfl

/-- R116 in integers: the magnitude at the index, negated in the second half of the period. -/
theorem opOut_toInt_eq (cfg : Config) (o : Operator) (m : Int) :
    (opOut cfg o m).toInt =
      let p := (((o.phase.toNat / 1024 : Nat) : Int) + m) % 1024
      if p < 512 then (magnitudeAt cfg o p : Int) else -(magnitudeAt cfg o p : Int) := by
  have hlt := (waveIndex o.phase m).isLt
  rw [opOut_toInt, magnitude_eq_magnitudeAt, getLsbD_eq_decide, ← waveIndex_toNat]
  have hbit : decide ((waveIndex o.phase m).toNat / 2 ^ 9 % 2 = 1) = true ↔ ¬ (waveIndex o.phase m).toNat < 512 := by
    rw [decide_eq_true_eq]
    omega
  simp only [hbit]
  split <;> split <;> omega

/-- R118: the fold does not see which half of the period an index is in. -/
theorem foldedIndex_half (p : Int) : foldedIndex ((p + 512) % 1024) = foldedIndex (p % 1024) := by
  unfold foldedIndex
  split <;> split <;> omega

theorem magnitudeAt_half (cfg : Config) (o : Operator) (p : Int) :
    magnitudeAt cfg o ((p + 512) % 1024) = magnitudeAt cfg o (p % 1024) := by
  rw [magnitudeAt, magnitudeAt, foldedIndex_half]

theorem opOut_half (cfg : Config) (o : Operator) (m : Int) :
    (opOut cfg o (m + 512)).toInt = -(opOut cfg o m).toInt := by
  rw [opOut_toInt_eq, opOut_toInt_eq, ← Int.add_assoc]
  simp only [magnitudeAt_half]
  split <;> split <;> omega

/-! ### The phase increment -/

/-- R113: the base fits its 17 bits. -/
theorem phaseBase_toNat (f : Frequency) : (phaseBase f).toNat = (f.fnum.toNat <<< f.block.toNat) >>> 1 := by
  have hfnum : f.fnum.toNat ≤ 2047 := Nat.le_of_lt_succ f.fnum.isLt
  have hblock : 2 ^ f.block.toNat ≤ 2 ^ 7 := Nat.pow_le_pow_right (by decide) (Nat.le_of_lt_succ f.block.isLt)
  have hprod := Nat.mul_le_mul hfnum hblock
  rw [phaseBase, BitVec.toNat_ofNat, Nat.shiftLeft_eq, Nat.shiftRight_eq_div_pow, Nat.mod_eq_of_lt (by omega)]

/-- R113: the detune is added or subtracted modulo 2^17, the sign its upper bit. -/
theorem detunedBase_toNat (cfg : Config) (f : Frequency) (det : BitVec 3) :
    ((detunedBase cfg f det).toNat : Int) =
      (if 4 ≤ det.toNat then ((phaseBase f).toNat : Int) - (cfg.dtTab (det.extractLsb' 0 2) (keycodeOf cfg f)).toNat
        else (phaseBase f).toNat + (cfg.dtTab (det.extractLsb' 0 2) (keycodeOf cfg f)).toNat) % 2 ^ 17 := by
  have hdet := det.isLt
  have hdt : (cfg.dtTab (det.extractLsb' 0 2) (keycodeOf cfg f)).toNat < 2 ^ 5 := BitVec.isLt _
  have hbase := (phaseBase f).isLt
  rw [detunedBase, getLsbD_eq_decide]
  by_cases h : 4 ≤ det.toNat
  · have hbit : det.toNat / 2 ^ 2 % 2 = 1 := by omega
    simp only [hbit, h, decide_true, if_true, BitVec.toNat_sub, BitVec.toNat_setWidth]
    omega
  · have hbit : det.toNat / 2 ^ 2 % 2 ≠ 1 := by omega
    simp only [hbit, h, decide_false, if_false, BitVec.toNat_add, BitVec.toNat_setWidth, Bool.false_eq_true]
    omega

/-- R113: fifteen times a 17-bit base fits 21 bits. -/
theorem phaseIncOf_toNat (cfg : Config) (f : Frequency) (det : BitVec 3) (mul : BitVec 4) :
    (phaseIncOf cfg f det mul).toNat =
      if mul = 0#4 then (detunedBase cfg f det).toNat / 2 else (detunedBase cfg f det).toNat * mul.toNat := by
  have hbase := (detunedBase cfg f det).isLt
  have hprod := Nat.mul_le_mul (Nat.le_of_lt_succ hbase) (Nat.le_of_lt_succ mul.isLt)
  rw [phaseIncOf, BitVec.toNat_ofNat]
  split <;> omega

/-! ### The obligations -/

/-- An operator at the peak of the wave, fully loud. -/
def peakOperator : Operator := { Operator.reset with phase := 262144#20, env := 0#10 }

/-- Settles O47: the bound is that of the largest antilog entry, which the peak of a fully loud operator reaches. -/
theorem operatorOutputIsBounded : Obligations.OperatorOutputIsBounded :=
  ⟨opOut_within, peakOperator, 0, by decide⟩

/-- Settles O48: the attenuation and the level alone reach the shift of 13. -/
theorem attenuatedOperatorIsSilent : Obligations.AttenuatedOperatorIsSilent :=
  fun cfg _ m => ⟨opOut_of_env_silent cfg m, opOut_of_level cfg m, fun htl => opOut_of_level cfg m (by omega)⟩

/-- Settles O49: half a period keeps the folded index and moves the sign. -/
theorem halfAPeriodNegatesTheOutput : Obligations.HalfAPeriodNegatesTheOutput := by
  refine fun cfg o m => ⟨opOut_toInt_eq cfg o m, opOut_half cfg o m, BitVec.eq_of_toInt_eq ?_⟩
  rw [show m + 1024 = m + 512 + 512 by omega, opOut_half, opOut_half, Int.neg_neg]

/-- Settles O50. -/
theorem phaseIncrementIsTheDetunedProduct : Obligations.PhaseIncrementIsTheDetunedProduct := by
  intro cfg f det mul kc dt base detuned
  have hdetuned : ((detunedBase cfg f det).toNat : Int) = detuned := by
    rw [detunedBase_toNat, phaseBase_toNat]
    rfl
  rw [phaseIncOf_toNat, ← hdetuned]
  split <;> simp

end Sys2Proof.Machine
end

section
/-! PROOFS. The channel evaluation (42_algorithm.md): the summary table, the modulation inputs and the bounds of the
sums and memories; then the obligations that follow (O51, O52). -/

namespace Sys2Proof.Machine

/-! ### The evaluation of each algorithm -/

/-- R185 to R192, the summary table: one line for each algorithm, over the outputs of the slots at their modulation
inputs. -/
theorem evalAlgorithm_table (cfg : Config) (x : Channel) :
    let pre := fun v : Int => v / 2 ^ cfg.modShift
    let d := x.algMem.toInt
    let o0 := (opOut cfg (x.op 0) (feedbackInput x)).toInt
    let o1 := fun m => (opOut cfg (x.op 1) m).toInt
    let o2 := fun m => (opOut cfg (x.op 2) m).toInt
    let o3 := fun m => (opOut cfg (x.op 3) m).toInt
    (x.alg = 0 → evalAlgorithm cfg x = ⟨some (o1 (pre o0)), o3 (pre (o2 (pre d)))⟩) ∧
    (x.alg = 1 → evalAlgorithm cfg x = ⟨some (o0 + o1 0), o3 (pre (o2 (pre d)))⟩) ∧
    (x.alg = 2 → evalAlgorithm cfg x = ⟨some (o1 0), o3 (pre (o0 + o2 (pre d)))⟩) ∧
    (x.alg = 3 → evalAlgorithm cfg x = ⟨some (o1 (pre o0)), o3 (pre (d + o2 0))⟩) ∧
    (x.alg = 4 → evalAlgorithm cfg x = ⟨none, o1 (pre o0) + o3 (pre (o2 0))⟩) ∧
    (x.alg = 5 → evalAlgorithm cfg x = ⟨some o0, o1 (pre o0) + o2 (pre d) + o3 (pre o0)⟩) ∧
    (x.alg = 6 → evalAlgorithm cfg x = ⟨none, o1 (pre o0) + o2 0 + o3 0⟩) ∧
    (x.alg = 7 → evalAlgorithm cfg x = ⟨none, o0 + o1 0 + o2 0 + o3 0⟩) := by
  refine ⟨fun h => ?_, fun h => ?_, fun h => ?_, fun h => ?_, fun h => ?_, fun h => ?_, fun h => ?_, fun h => ?_⟩ <;>
    rw [evalAlgorithm, h]
  · exact algorithm_zero _
  · exact algorithm_one _
  · exact algorithm_two _
  · exact algorithm_three _
  · exact algorithm_four _
  · exact algorithm_five _
  · exact algorithm_six _
  · exact algorithm_seven _

/-- The output of each slot in one evaluation of a channel, at the inputs `slotInputs` names. -/
def slotOut (cfg : Config) (x : Channel) : Slot → Int
  | 0 => (opOut cfg (x.op 0) (feedbackInput x)).toInt
  | 1 => (opOut cfg (x.op 1) (slotInputs cfg x).m1).toInt
  | 2 => (opOut cfg (x.op 2) (slotInputs cfg x).m2).toInt
  | 3 => (opOut cfg (x.op 3) (slotInputs cfg x).m3).toInt

/-- The modulation input of slot 3, over the outputs of slots 0 and 2. -/
theorem slotInputs_m3 (cfg : Config) (x : Channel) :
    (slotInputs cfg x).m3 =
      if x.alg = 0#3 ∨ x.alg = 1#3 ∨ x.alg = 4#3 then preScale cfg (slotOut cfg x 2)
      else if x.alg = 2#3 then preScale cfg (slotOut cfg x 0 + slotOut cfg x 2)
      else if x.alg = 3#3 then preScale cfg (x.algMem.toInt + slotOut cfg x 2)
      else if x.alg = 5#3 then preScale cfg (slotOut cfg x 0)
      else 0 := rfl

/-- The store and the sum of an evaluation, over the slots' outputs at the inputs `slotInputs` names. -/
theorem evalAlgorithm_eq_slotInputs (cfg : Config) (x : Channel) :
    (evalAlgorithm cfg x).store =
      (if x.alg = 0#3 ∨ x.alg = 2#3 ∨ x.alg = 3#3 then some (slotOut cfg x 1)
        else if x.alg = 1#3 then some (slotOut cfg x 0 + slotOut cfg x 1)
        else if x.alg = 5#3 then some (slotOut cfg x 0)
        else none) ∧
    (evalAlgorithm cfg x).sum =
      if x.alg.toNat < 4 then slotOut cfg x 3
      else if x.alg = 4#3 then slotOut cfg x 1 + slotOut cfg x 3
      else if x.alg = 7#3 then slotOut cfg x 0 + slotOut cfg x 1 + slotOut cfg x 2 + slotOut cfg x 3
      else slotOut cfg x 1 + slotOut cfg x 2 + slotOut cfg x 3 := by
  have htable := evalAlgorithm_table cfg x
  simp only at htable
  simp only [slotOut]
  obtain h | h | h | h | h | h | h | h := alg_cases x.alg <;>
    simp [h] at htable <;> simp [htable, slotInputs, h, algInput, preScale, asr, slotZeroOut]

/-! ### The bounds under the default tables -/

/-- A floor division by at least two halves a symmetric bound. -/
theorem asr_within {v b : Int} {n : Nat} (hn : 1 ≤ n) (hlo : -(2 * b) ≤ v) (hhi : v ≤ 2 * b) :
    -b ≤ asr v n ∧ asr v n ≤ b := by
  obtain ⟨k, rfl⟩ := Nat.exists_eq_add_of_le hn
  have hpow : (0 : Int) < 2 ^ k := by positivity
  have hhalf : asr v (1 + k) = v / 2 / 2 ^ k := by
    rw [asr, pow_add, pow_one, Int.ediv_ediv_of_nonneg (by decide)]
  rw [hhalf]
  constructor
  · rw [Int.le_ediv_iff_mul_le hpow]
    nlinarith [show -b ≤ v / 2 by omega]
  · exact Int.le_of_lt_add_one (Int.ediv_lt_of_lt_mul hpow (by nlinarith [show v / 2 ≤ b by omega]))

theorem slotOut_within (x : Channel) (sl : Slot) : withinOutput (slotOut defaultConfig x sl) := by
  fin_cases sl <;> exact opOut_within _ _

theorem wrap16_toInt {v : Int} (hlo : -2 ^ 15 ≤ v) (hhi : v < 2 ^ 15) : (wrap16 v).toInt = v :=
  BitVec.toInt_ofInt_eq_self (by decide) hlo hhi

/-- R194: at most four carriers are summed. -/
theorem sum_within (x : Channel) :
    -32672 ≤ (evalAlgorithm defaultConfig x).sum ∧ (evalAlgorithm defaultConfig x).sum ≤ 32672 := by
  obtain ⟨-, hsum⟩ := evalAlgorithm_eq_slotInputs defaultConfig x
  have h (sl : Slot) : -8168 ≤ slotOut defaultConfig x sl ∧ slotOut defaultConfig x sl ≤ 8168 := slotOut_within x sl
  have h0 := h 0
  have h1 := h 1
  have h2 := h 2
  have h3 := h 3
  rw [hsum]
  split_ifs <;> omega

theorem channelOut_toInt (x : Channel) : (channelOut defaultConfig x).toInt = (evalAlgorithm defaultConfig x).sum := by
  obtain ⟨hlo, hhi⟩ := sum_within x
  exact wrap16_toInt (by omega) (by omega)

/-- R181: the feedback input is at most half the sum of the two memories. -/
theorem feedbackInput_within {x : Channel} (hi : x.Inv) : withinOutput (feedbackInput x) := by
  obtain ⟨⟨hlo1, hhi1⟩, ⟨hlo2, hhi2⟩, -⟩ := hi
  have hfb := x.fb.isLt
  rw [feedbackInput, withinOutput]
  split
  · omega
  · exact asr_within (by omega) (by omega) (by omega)

/-- R194: the store of an evaluation is the output of one slot or the sum of two. -/
theorem store_within {x : Channel} {v : Int} (h : (evalAlgorithm defaultConfig x).store = some v) : withinDelay v := by
  obtain ⟨hstore, -⟩ := evalAlgorithm_eq_slotInputs defaultConfig x
  obtain ⟨hlo0, hhi0⟩ := slotOut_within x 0
  obtain ⟨hlo1, hhi1⟩ := slotOut_within x 1
  rw [hstore] at h
  rw [withinDelay]
  split_ifs at h <;> simp only [Option.some.injEq] at h <;> omega

/-- R123 and R194: an evaluation keeps the memories within their bounds. -/
theorem inv_channelAfterOut {x : Channel} (hi : x.Inv) : (channelAfterOut defaultConfig x).Inv := by
  obtain ⟨-, hmem2, hcell⟩ := hi
  refine ⟨hmem2, opOut_within _ _, ?_⟩
  cases hstore : (evalAlgorithm defaultConfig x).store with
  | none => rwa [channelAfterOut_algMem_of_none _ _ hstore]
  | some v =>
    obtain ⟨hlo, hhi⟩ := store_within hstore
    rw [channelAfterOut_algMem_of_store _ _ hstore, wrap32_toInt (by omega) (by omega)]
    exact ⟨hlo, hhi⟩

/-- R183: the default pre-scale halves a symmetric bound. -/
theorem preScale_within {v b : Int} (hlo : -(2 * b) ≤ v) (hhi : v ≤ 2 * b) :
    -b ≤ preScale defaultConfig v ∧ preScale defaultConfig v ≤ b :=
  asr_within (Nat.le_refl 1) hlo hhi

/-- The modulation inputs of slots 1 to 3 (R194, log entry 13). -/
theorem slotInputs_within {x : Channel} (hi : x.Inv) :
    withinOutput (slotInputs defaultConfig x).m1 ∧ withinOutput (slotInputs defaultConfig x).m2 ∧
    withinMixed (slotInputs defaultConfig x).m3 ∧
    (x.alg ≠ 3#3 ∨ withinOutput x.algMem.toInt → withinOutput (slotInputs defaultConfig x).m3) := by
  obtain ⟨-, -, hcell⟩ := hi
  have h0 := slotOut_within x 0
  have h2 := slotOut_within x 2
  simp only [withinOutput, withinMixed, withinDelay] at *
  have hm1 : (slotInputs defaultConfig x).m1 =
      if x.alg = 1#3 ∨ x.alg = 2#3 ∨ x.alg = 7#3 then 0 else preScale defaultConfig (slotOut defaultConfig x 0) := rfl
  have hm2 : (slotInputs defaultConfig x).m2 =
      if x.alg = 0#3 ∨ x.alg = 1#3 ∨ x.alg = 2#3 ∨ x.alg = 5#3 then preScale defaultConfig x.algMem.toInt else 0 := rfl
  rw [hm1, hm2, slotInputs_m3]
  refine ⟨?_, ?_, ?_, fun hcell' => ?_⟩
  · split_ifs
    · decide
    · exact preScale_within (by omega) (by omega)
  · split_ifs
    · exact preScale_within (by omega) (by omega)
    · decide
  · split_ifs
    any_goals exact preScale_within (by omega) (by omega)
    decide
  · split_ifs with _ _ halg
    · exact preScale_within (by omega) (by omega)
    · exact preScale_within (by omega) (by omega)
    · obtain ⟨hlo, hhi⟩ := hcell'.resolve_left (· halg)
      exact preScale_within (by omega) (by omega)
    · exact preScale_within (by omega) (by omega)
    · decide

/-! ### The obligations -/

/-- A channel that algorithm 1 left with a full delay cell, set to algorithm 3, its slot 2 at the peak of the wave
(log entry 13). -/
def mixedChannel : Channel :=
  { Channel.reset with alg := 3#3, algMem := 16336#32, ops := Vector.replicate 4 peakOperator }

/-- Settles O52: each bound is that of one to four outputs, or of half a memory. -/
theorem channelOutputNeverWraps : Obligations.ChannelOutputNeverWraps := by
  refine ⟨fun x => ?_, fun x hi => ?_, ⟨mixedChannel, ?_⟩, evalAlgorithm_eq_slotInputs⟩
  · obtain ⟨hlo, hhi⟩ := sum_within x
    exact ⟨hlo, hhi, channelOut_toInt x⟩
  · obtain ⟨hm1, hm2, hm3, hm3'⟩ := slotInputs_within hi
    refine ⟨feedbackInput_within hi, hm1, hm2, hm3, hm3', fun halg => ?_⟩
    have hstore : (evalAlgorithm defaultConfig x).store = some (slotOut defaultConfig x 1) := by
      rw [(evalAlgorithm_eq_slotInputs defaultConfig x).1, if_pos (.inr (.inr halg))]
    obtain ⟨hlo, hhi⟩ := slotOut_within x 1
    rw [channelAfterOut_algMem_of_store _ _ hstore, wrap32_toInt (by omega) (by omega)]
    exact ⟨hlo, hhi⟩
  · simp only [Channel.Inv, withinOutput, withinDelay]
    decide

/-- Settles O51. -/
theorem algorithmsAreTheSummaryTable : Obligations.AlgorithmsAreTheSummaryTable := by
  refine ⟨fun _ => rfl, fun s t c h => ?_, evalAlgorithm_table⟩
  cases h
  intro x o0 o1 cell
  have hcell : cell = (channelAfterOut defaultConfig x).algMem := by
    simp only [cell, chan_sampleDevice, Channel.mapOps_algMem]
    rfl
  have hkept : x.algMem = (s.dev.chan c).algMem := by
    simp only [x, chan_clockEnvelopes]
    split <;> rfl
  have hstore {v : Int} (h : (evalAlgorithm defaultConfig x).store = some v) : cell = wrap32 v :=
    hcell.trans (channelAfterOut_algMem_of_store _ _ h)
  have hnone (h : (evalAlgorithm defaultConfig x).store = none) : cell = (s.dev.chan c).algMem :=
    hcell.trans ((channelAfterOut_algMem_of_none _ _ h).trans hkept)
  obtain ⟨h0, h1, h2, h3, h4, h5, h6, h7⟩ := evalAlgorithm_table defaultConfig x
  refine ⟨?_, fun h => hstore (by rw [h1 h]), fun h => hstore (by rw [h2 h]), fun h => hstore (by rw [h5 h]), ?_⟩
  · rintro (h | h)
    · exact hstore (by rw [h0 h]; rfl)
    · exact hstore (by rw [h3 h]; rfl)
  · rintro (h | h | h)
    · exact hnone (by rw [h4 h])
    · exact hnone (by rw [h6 h])
    · exact hnone (by rw [h7 h])

end Sys2Proof.Machine
end

section
/-! PROOFS. SAMPLE stage by stage (R250 to R254), the invariant of R30, R123 and R194, and silence (R332); then the
obligations that follow (O23, O53 to O56). -/

namespace Sys2Proof.Machine

/-! ### The stages of a SAMPLE -/

/-- The envelope clock writes no memory and no parameter (R251). -/
theorem sameMemories_clockEnvelopes (cfg : Config) (d : Device) (c : ChanIx) :
    (d.chan c).sameMemories ((clockEnvelopes cfg d).chan c) := by
  rw [chan_clockEnvelopes]
  split <;> exact ⟨rfl, rfl, rfl⟩

theorem sameParameters_clockEnvelopes (cfg : Config) (d : Device) (c : ChanIx) :
    (d.chan c).sameParameters ((clockEnvelopes cfg d).chan c) := by
  rw [chan_clockEnvelopes]
  split <;> exact ⟨rfl, rfl, rfl, rfl⟩

/-- The phase advance writes no memory: those after a SAMPLE are the evaluation's (R254). -/
theorem sameMemories_sampleDevice (cfg : Config) (d : Device) (c : ChanIx) :
    (channelAfterOut cfg ((clockEnvelopes cfg d).chan c)).sameMemories ((sampleDevice cfg d).chan c) := by
  rw [chan_sampleDevice]
  exact ⟨rfl, rfl, rfl⟩

theorem sameParameters_sampleDevice (cfg : Config) (d : Device) (c : ChanIx) :
    (d.chan c).sameParameters ((sampleDevice cfg d).chan c) := by
  rw [chan_sampleDevice]
  exact sameParameters_clockEnvelopes cfg d c

/-- Settles O23: the middle device is the one after the envelope clock. -/
theorem sampleTicksEvaluatesAndAdvances : Obligations.SampleTicksEvaluatesAndAdvances := by
  intro s
  refine ⟨_, clockEnvelopes defaultConfig s.dev, exec_sample s, fun c sl => op_clockEnvelopes .., fun c =>
    ⟨sameMemories_clockEnvelopes .., sameParameters_clockEnvelopes ..⟩, fun c sl => ?_, fun c =>
    ⟨sameMemories_sampleDevice .., sameParameters_sampleDevice ..⟩, ?_, rfl, sampleDevice_latch ..,
    sampleDevice_ch3Mode .., sampleDevice_ch3Fnum .., sampleDevice_ch3Block .., sampleDevice_panL ..,
    sampleDevice_panR .., sampleDevice_envDiv_val ..⟩
  · rw [op_sampleDevice, op_clockEnvelopes]
    rfl
  · rw [← clockEnvelopes_panL defaultConfig s.dev, ← clockEnvelopes_panR defaultConfig s.dev]
    rfl

/-! ### Channels do not read each other -/

section Noninterference
variable {cfg : Config} {d e : Device} {c : ChanIx} (hchan : e.chan c = d.chan c)
  (hch3 : c = 2 → e.ch3Mode = d.ch3Mode ∧ e.ch3Fnum = d.ch3Fnum ∧ e.ch3Block = d.ch3Block)
include hchan hch3

/-- R110: only channel 2 reads the channel-3 fields. -/
theorem effFreq_of_same_channel (sl : Slot) : effFreq e c sl = effFreq d c sl := by
  by_cases hc : c = 2
  · obtain ⟨hmode, hfnum, hblock⟩ := hch3 hc
    exact effFreq_congr (by rw [hchan]) (by rw [hchan]) hmode hfnum hblock
  · rw [effFreq_ownPair (.inl hc), effFreq_ownPair (.inl hc), hchan]

theorem phaseInc_of_same_channel (sl : Slot) : phaseInc cfg e c sl = phaseInc cfg d c sl := by
  rw [phaseInc, phaseInc, effFreq_of_same_channel hchan hch3, Device.op, Device.op, hchan]

theorem chan_clockEnvelopes_of_same_channel (hdiv : e.envDiv = d.envDiv) :
    (clockEnvelopes cfg e).chan c = (clockEnvelopes cfg d).chan c := by
  simp only [chan_clockEnvelopes, keycode, effFreq_of_same_channel hchan hch3, hchan, hdiv]

end Noninterference

/-- Settles O53: the tick, the evaluation and the phase advance of a channel read that channel and its frequencies. -/
theorem channelsDoNotReadEachOther : Obligations.ChannelsDoNotReadEachOther := by
  intro cfg d e c hchan hdiv hch3
  have hmid : (clockEnvelopes cfg e).chan c = (clockEnvelopes cfg d).chan c :=
    chan_clockEnvelopes_of_same_channel hchan hch3 hdiv
  refine ⟨?_, by rw [hmid]⟩
  simp only [chan_sampleDevice, hmid, phaseInc_of_same_channel hchan hch3]

/-! ### The invariant of an operator -/

section OperatorInvariant
variable {o p : Operator}

theorem inv_of_sameRunning (h : o.sameRunning p) (hi : o.Inv) : p.Inv := by
  obtain ⟨-, henv, hstate, -, hkeyon⟩ := h
  rwa [Operator.Inv, hkeyon, hstate, henv]

theorem inv_keyOn (hi : o.Inv) : (keyOn o).Inv := by
  unfold keyOn
  split
  · exact hi
  · exact ⟨rfl, nofun⟩

theorem inv_keyOff (hi : o.Inv) : (keyOff o).Inv := by
  unfold keyOff
  split
  · exact hi
  · exact ⟨rfl, nofun⟩

/-- The automatic transitions keep R30: a held state goes to a held state, and OFF is entered at 1023. -/
theorem inv_envelopeTick (cfg : Config) (kc : BitVec 5) (hi : o.Inv) : (envelopeTick cfg kc o).Inv := by
  obtain ⟨hheld, hsilent⟩ := hi
  rw [Operator.Inv, envelopeTick_keyon, hheld]
  obtain hsame | ⟨hold, hnow, -⟩ | ⟨hold, hnow⟩ | ⟨hold, hnow, henv⟩ := envelopeTick_egState cfg kc o
  · refine ⟨by rw [hsame], fun hoff => ?_⟩
    have hoff' : o.egState = .off := hsame.symm.trans hoff
    rw [envelopeTick_of_off cfg kc hoff', advanceClock_env]
    exact hsilent hoff'
  · simp [hold, hnow, EgState.held]
  · simp [hold, hnow, EgState.held]
  · simp [hold, hnow, henv, EgState.held]

end OperatorInvariant

/-! ### The invariant of the machine -/

section MachineInvariant
variable {i : Instr} {s t : State}

theorem inv_of_sameMemories {x y : Channel} (h : x.sameMemories y) (hi : x.Inv) : y.Inv := by
  obtain ⟨hmem1, hmem2, hcell⟩ := h
  rwa [Channel.Inv, hmem1, hmem2, hcell]

theorem inv_op_exec (c : ChanIx) (sl : Slot) (hi : (s.dev.op c sl).Inv) (h : exec i s = .next t) (hr : i ≠ .reset) :
    (t.dev.op c sl).Inv := by
  obtain ⟨-, hsame⟩ | ⟨on, -, hop⟩ | ⟨-, hop⟩ := op_exec_cases c sl h hr
  · exact inv_of_sameRunning hsame hi
  · rw [hop]
    split
    · exact inv_keyOn hi
    · exact inv_keyOff hi
  · rw [hop]
    split
    · exact inv_envelopeTick _ _ hi
    · exact hi

theorem inv_chan_exec (c : ChanIx) (hi : (s.dev.chan c).Inv) (h : exec i s = .next t) (hr : i ≠ .reset) :
    (t.dev.chan c).Inv := by
  by_cases hs : i = .sample
  · subst hs
    cases h
    have hmid := inv_of_sameMemories (sameMemories_clockEnvelopes defaultConfig s.dev c) hi
    exact inv_of_sameMemories (sameMemories_sampleDevice defaultConfig s.dev c) (inv_channelAfterOut hmid)
  · exact inv_of_sameMemories (sameMemories_exec c h hr hs) hi

/-- Six channel outputs of at most 32672 each, gated by their pan bits, are at most 196032 (R253). -/
theorem panSum_within (pan : ChanIx → Bool) (x : ChanIx → Channel) :
    withinFrame (wrap32 (panSum pan fun c => channelOut defaultConfig (x c))).toInt := by
  have hterm (c : ChanIx) : -32672 ≤ (if pan c then (channelOut defaultConfig (x c)).toInt else 0) ∧
      (if pan c then (channelOut defaultConfig (x c)).toInt else 0) ≤ 32672 := by
    have hsum := sum_within (x c)
    rw [channelOut_toInt]
    split <;> omega
  have hlo := Finset.card_nsmul_le_sum Finset.univ _ _ fun c _ => (hterm c).1
  have hhi := Finset.sum_le_card_nsmul Finset.univ _ _ fun c _ => (hterm c).2
  simp only [Finset.card_univ, Fintype.card_fin, nsmul_eq_mul] at hlo hhi
  rw [wrap32_panSum_toInt, withinFrame]
  omega

theorem bounded_sampleFrame (d : Device) : (sampleFrame defaultConfig d).Bounded :=
  ⟨panSum_within .., panSum_within ..⟩

theorem inv_reset : Device.reset.Inv := by
  refine ⟨fun c sl => ?_, fun c => ?_⟩
  · rw [Device.op_reset]
    exact ⟨rfl, nofun⟩
  · rw [Device.chan_reset]
    simp only [Channel.Inv, withinOutput, withinDelay]
    decide

/-- Every command keeps the invariant. -/
theorem inv_exec (hi : s.Inv) (h : exec i s = .next t) : t.Inv := by
  obtain ⟨⟨hop, hchan⟩, hframes⟩ := hi
  obtain ⟨-, hemitted⟩ := onlySampleEmitsAFrame i s t h
  refine ⟨?_, ?_⟩
  · by_cases hr : i = .reset
    · subst hr
      cases h
      exact inv_reset
    · exact ⟨fun c sl => inv_op_exec c sl (hop c sl) h hr, fun c => inv_chan_exec c (hchan c) h hr⟩
  · rw [hemitted]
    split
    · simp only [List.mem_append, List.mem_singleton]
      rintro f (hf | rfl)
      · exact hframes f hf
      · exact bounded_sampleFrame s.dev
    · exact hframes

/-- A step that answers a next state had no command to take, or ran the command its head word decodes to. -/
theorem step_cases (h : step s = .next t) :
    (s.commands = [] ∧ t = s) ∨
    ∃ w rest i, s.commands = w :: rest ∧ decode w = .ok i ∧ exec i { s with commands := rest } = .next t := by
  cases hc : s.commands with
  | nil =>
    rw [step, hc] at h
    cases h
    exact .inl ⟨rfl, rfl⟩
  | cons w rest =>
    cases hd : decode w with
    | ok i =>
      rw [step_of_decode hc hd] at h
      exact .inr ⟨w, rest, i, rfl, hd, h⟩
    | error reject => simp [step, hc, hd] at h

end MachineInvariant

/-- Settles O54. -/
theorem resetMeetsTheInvariant : Obligations.ResetMeetsTheInvariant := ⟨inv_reset, nofun⟩

/-- Settles O55: the invariant does not see the commands waiting, and every command keeps it. -/
theorem stepKeepsTheInvariant : Obligations.StepKeepsTheInvariant := by
  intro s t hi h
  obtain ⟨-, rfl⟩ | ⟨w, rest, i, -, -, hexec⟩ := step_cases h
  · exact hi
  · exact inv_exec (s := { s with commands := rest }) hi hexec

/-! ### Silence -/

section Silence
variable {o p : Operator}

theorem silent_of_sameRunning (h : o.sameRunning p) (hs : o.Silent) : p.Silent := by
  obtain ⟨-, henv, hstate, -, hkeyon⟩ := h
  rwa [Operator.Silent, hkeyon, hstate, henv]

theorem keyOff_of_silent (hs : o.Silent) : keyOff o = o := by
  obtain ⟨hkeyon, -⟩ := hs
  rw [keyOff_eq, if_pos (.inl hkeyon)]

/-- An update of a silent operator can only take it from RELEASE to OFF (R152). -/
theorem silent_envUpdate (inc : Nat) (hs : o.Silent) : (envUpdate inc o).Silent := by
  obtain ⟨hkeyon, hstate | hstate, henv⟩ := hs
  · have hend : 1023 ≤ o.env.toNat + inc := by
      rw [henv, BitVec.toNat_ofNat]
      omega
    simp [envUpdate, hstate, releaseUpdate, hend, Operator.Silent, hkeyon]
  · simp [envUpdate, hstate, Operator.Silent, hkeyon, henv]

theorem silent_envelopeTick (cfg : Config) (kc : BitVec 5) (hs : o.Silent) : (envelopeTick cfg kc o).Silent := by
  have hgated : (gatedUpdate cfg kc o).Silent := by
    by_cases hopen : gateOpen (rateOf o kc) o.egClock = true
    · rw [gatedUpdate_of_open hopen]
      exact silent_envUpdate _ hs
    · rwa [gatedUpdate_of_closed hopen]
  exact hgated

/-- R124 and R332: a channel of silent operators outputs 0. -/
theorem channelOut_of_silent (cfg : Config) {x : Channel} (hs : ∀ sl, (x.op sl).Silent) : channelOut cfg x = 0#16 := by
  have hslot (sl : Slot) : slotOut cfg x sl = 0 := by
    have hzero (sl : Slot) (m : Int) : (opOut cfg (x.op sl) m).toInt = 0 := by
      obtain ⟨-, -, henv⟩ := hs sl
      rw [opOut_of_env_silent cfg m henv]
      rfl
    fin_cases sl <;> exact hzero _ _
  obtain ⟨-, hsum⟩ := evalAlgorithm_eq_slotInputs cfg x
  simp only [hslot, Int.add_zero, ite_self] at hsum
  rw [channelOut, hsum]
  rfl

theorem silent_clockEnvelopes (cfg : Config) {d : Device} (hs : d.Silent) : (clockEnvelopes cfg d).Silent := by
  intro c sl
  rw [op_clockEnvelopes]
  split
  · exact silent_envelopeTick _ _ (hs c sl)
  · exact hs c sl

theorem silent_sampleDevice (cfg : Config) {d : Device} (hs : d.Silent) : (sampleDevice cfg d).Silent := by
  intro c sl
  rw [op_sampleDevice]
  split
  · exact silent_envelopeTick _ _ (hs c sl)
  · exact hs c sl

/-- R332: the frame of a silent block. -/
theorem sampleFrame_of_silent (cfg : Config) {d : Device} (hs : d.Silent) : sampleFrame cfg d = Frame.zero := by
  have hout (c : ChanIx) : channelOut cfg ((clockEnvelopes cfg d).chan c) = 0#16 :=
    channelOut_of_silent cfg (silent_clockEnvelopes cfg hs c)
  have hsum (pan : ChanIx → Bool) : panSum pan (fun _ => 0#16) = 0 := by simp [panSum_eq_sum]
  simp only [sampleFrame, frameOf, hout, hsum]
  rfl

end Silence

/-- Settles O56: a command that keys nothing on leaves every operator silent, and a silent device's frame is zero. -/
theorem silenceIsKeptWithoutKeyOn : Obligations.SilenceIsKeptWithoutKeyOn := by
  intro i s t hs hkey h
  obtain ⟨-, hemitted⟩ := onlySampleEmitsAFrame i s t h
  refine ⟨fun c sl => ?_, by rw [hemitted, sampleFrame_of_silent _ hs]⟩
  by_cases hr : i = .reset
  · subst hr
    cases h
    rw [State.updateDev_dev, Device.op_reset]
    exact ⟨rfl, .inl rfl, rfl⟩
  obtain ⟨-, hsame⟩ | ⟨on, hon, hop⟩ | ⟨rfl, -⟩ := op_exec_cases c sl h hr
  · exact silent_of_sameRunning hsame (hs c sl)
  · cases on with
    | true => exact absurd hon (hkey c sl)
    | false =>
      rw [hop, if_neg (by decide), keyOff_of_silent (hs c sl)]
      exact hs c sl
  · cases h
    exact silent_sampleDevice defaultConfig hs c sl

end Sys2Proof.Machine
end

section
/-! PROOFS. Runs of the machine (R70, R97, R255, R256): N SAMPLEs in a row, and sequences without a word of kind 0b11;
then the obligations that follow (O57 to O59). -/

namespace Sys2Proof.Machine

/-! ### SAMPLEs in a row -/

/-- The last of N + 1 SAMPLEs, taken off the end. -/
theorem sampleTimes_succ (cfg : Config) (n : Nat) (d : Device) :
    sampleTimes cfg (n + 1) d = sampleDevice cfg (sampleTimes cfg n d) := by
  induction n generalizing d with
  | zero => rfl
  | succ n ih => exact ih (sampleDevice cfg d)

theorem sampleFrames_length (cfg : Config) (n : Nat) (d : Device) : (sampleFrames cfg n d).length = n := by
  induction n generalizing d with
  | zero => rfl
  | succ n ih => rw [sampleFrames, List.length_cons, ih]

section Silence
variable (cfg : Config) {d : Device}

theorem silent_sampleTimes (n : Nat) (hs : d.Silent) : (sampleTimes cfg n d).Silent := by
  induction n generalizing d with
  | zero => exact hs
  | succ n ih => exact ih (silent_sampleDevice cfg hs)

theorem sampleFrames_of_silent (n : Nat) (hs : d.Silent) : sampleFrames cfg n d = List.replicate n Frame.zero := by
  induction n generalizing d with
  | zero => rfl
  | succ n ih => rw [sampleFrames, sampleFrame_of_silent cfg hs, ih (silent_sampleDevice cfg hs), List.replicate_succ]

/-- The newer memory after a SAMPLE of a silent device holds the 0 slot 0 gave (R33). -/
theorem fbMem2_sampleDevice_of_silent (hs : d.Silent) (c : ChanIx) : ((sampleDevice cfg d).chan c).fbMem2 = 0#16 := by
  obtain ⟨-, hmem2, -⟩ := sameMemories_sampleDevice cfg d c
  obtain ⟨-, -, henv⟩ := silent_clockEnvelopes cfg hs c 0
  exact hmem2.trans (opOut_of_env_silent cfg _ henv)

/-- The older memory after a SAMPLE is the newer one before it (R33). -/
theorem fbMem1_sampleDevice (d : Device) (c : ChanIx) :
    ((sampleDevice cfg d).chan c).fbMem1 = (d.chan c).fbMem2 := by
  obtain ⟨hmem1, -, -⟩ := sameMemories_sampleDevice cfg d c
  obtain ⟨-, hmem2, -⟩ := sameMemories_clockEnvelopes cfg d c
  exact hmem1.trans hmem2

end Silence

/-- Settles O57: the frames of a silent device are zero, and two SAMPLEs shift a 0 into each feedback memory. -/
theorem silentBlockGeneratesZeros : Obligations.SilentBlockGeneratesZeros := by
  intro n d b buf hs
  refine ⟨?_, ?_, fun hn c => ?_⟩
  · simp [generateStereo, sampleFrames_of_silent defaultConfig n hs, Frame.zero]
  · have hpair : interleavedPair Frame.zero = List.replicate 2 0#32 := rfl
    rw [generateInterleaved, sampleFrames_of_silent defaultConfig n hs, List.flatMap_replicate, hpair,
      List.flatten_replicate_replicate, Nat.mul_comm]
  · obtain ⟨k, rfl⟩ := Nat.exists_eq_add_of_le' hn
    have hone := silent_sampleTimes defaultConfig k hs
    have htwo := silent_sampleTimes defaultConfig (k + 1) hs
    rw [sampleTimes_succ]
    refine ⟨?_, fbMem2_sampleDevice_of_silent defaultConfig htwo c⟩
    rw [fbMem1_sampleDevice, sampleTimes_succ]
    exact fbMem2_sampleDevice_of_silent defaultConfig hone c

/-! ### Runs -/

theorem run_succ_of_step {s t : State} (k : Nat) (h : step s = .next t) :
    Sys2Proof.core.run (k + 1) s = Sys2Proof.core.run k t := by
  have hcore : Sys2Proof.core.step s = .next t := h
  simp only [Host.Core.run, hcore]

/-- N steps over N `sample` words are N SAMPLEs (R97). -/
theorem run_gen (n : Nat) (s : State) (rest : List CommandWord) (hc : s.commands = gen n ++ rest) :
    Sys2Proof.core.run n s = .next
      { dev := sampleTimes defaultConfig n s.dev
        commands := rest
        frames := s.frames ++ sampleFrames defaultConfig n s.dev } := by
  induction n generalizing s with
  | zero =>
    obtain ⟨dev, commands, frames⟩ := s
    obtain rfl : commands = rest := hc
    simp [Host.Core.run, sampleTimes, sampleFrames]
  | succ n ih =>
    have hstep := step_of_decode hc (decode_of_kind_sample (by decide))
    rw [exec_sample] at hstep
    rw [run_succ_of_step n hstep, ih _ rfl]
    simp [sampleTimes, sampleFrames]

/-- Settles O58: the frames emitted are those the buffer forms are made of. -/
theorem genRunsTheBufferForms : Obligations.GenRunsTheBufferForms := by
  intro n s rest b buf hc
  exact ⟨_, sampleFrames defaultConfig n s.dev, run_gen n s rest hc, rfl, rfl, rfl, sampleFrames_length .., rfl, rfl⟩

/-- A WRITE decodes to a register write (R81). -/
theorem isWrite_of_decodesTo {bank : BitVec 1} {r v : Byte} {i : Instr} (h : DecodesTo bank r v i) :
    i.isWrite = true := by
  cases h with
  | operator _ _ c hr =>
    obtain hd | hd | hd | hd | hd | hd := digit_cases hr <;> simp [hd, decodeOperatorWrite, Instr.isWrite]
  | mode | key | fnumHi | ch3FnumLo | fnumLo | algFb | pan | ignored => rfl

/-- A word of another kind than 0b11 decodes, and to SAMPLE exactly where its kind is 0b01 (R82). -/
theorem decode_of_legal {w : CommandWord} (h : w.extractLsb' 17 2 ≠ 3#2) :
    ∃ i, decode w = .ok i ∧ (i = .sample ↔ w.extractLsb' 17 2 = 1#2) := by
  obtain hkind | hkind | hkind | hkind := kind_cases w
  · refine ⟨_, decode_of_kind_write hkind, ?_⟩
    have hwrite := isWrite_of_decodesTo
      (decodesTo_decodeWrite (w.extractLsb' 16 1) (w.extractLsb' 8 8) (w.extractLsb' 0 8))
    refine ⟨fun hi => ?_, fun hsample => ?_⟩
    · rw [hi] at hwrite
      cases hwrite
    · rw [hkind] at hsample
      cases hsample
  · exact ⟨_, decode_of_kind_sample hkind, by simp [hkind]⟩
  · exact ⟨_, decode_of_kind_reset hkind, by simp [hkind]⟩
  · exact absurd hkind h

/-- Settles O59, word by word: a legal word is a command, which takes no word and emits a frame exactly where it is
SAMPLE. -/
theorem legalSequencesRunToTheirEnd : Obligations.LegalSequencesRunToTheirEnd := by
  intro ws rest s hc hlegal
  induction ws generalizing s with
  | nil => exact ⟨s, rfl, hc, rfl⟩
  | cons w ws ih =>
    obtain ⟨i, hdecode, hsample⟩ := decode_of_legal (hlegal w List.mem_cons_self)
    obtain ⟨u, hexec⟩ := exec_eq_next i { s with commands := ws ++ rest }
    have hstep : step s = .next u := (step_of_decode hc hdecode).trans hexec
    obtain ⟨hcommands, hframes⟩ := onlySampleEmitsAFrame _ _ _ hexec
    obtain ⟨t, hrun, hrest, hlength⟩ := ih u hcommands fun w' hw' => hlegal w' (List.mem_cons_of_mem _ hw')
    refine ⟨t, (run_succ_of_step ws.length hstep).trans hrun, hrest, ?_⟩
    rw [hlength, hframes, List.countP_cons]
    by_cases hi : i = .sample
    · simp [hi, hsample.mp hi]
      omega
    · have hkind : w.extractLsb' 17 2 ≠ 1#2 := fun h => hi (hsample.mpr h)
      simp [hi, hkind]

end Sys2Proof.Machine
end

section
/-! PROOFS. The envelope tick (41_envelope.md): its rate triple, its gate, the update of each state and the clock bits
they read; then the obligations that follow (O40 to O43, O46, O60). -/

namespace Sys2Proof.Machine

/-! ### The rate triple -/

section Rates
variable (o : Operator) (kc : BitVec 5)

/-- R141: no stage rate passes 31. -/
theorem stageRate_le : stageRate o ≤ 31 := by
  have har : o.ar.toNat < 32 := o.ar.isLt
  have hdr : o.dr.toNat < 32 := o.dr.isLt
  have hsr : o.sr.toNat < 32 := o.sr.isLt
  have hrr : o.rr.toNat < 16 := o.rr.isLt
  unfold stageRate
  split <;> omega

theorem tripleOfRate_shift_le (r : Nat) : (tripleOfRate r).shift ≤ 11 := by
  unfold tripleOfRate
  simp only
  split
  · exact Nat.zero_le _
  · exact Nat.sub_le ..

/-- R145: no shift passes 11. -/
theorem rateOf_shift_le : (rateOf o kc).shift ≤ 11 := by
  unfold rateOf
  split
  · exact Nat.zero_le _
  · exact tripleOfRate_shift_le _

theorem tripleOfRate_of_low {r : Nat} (h : r / 4 ≤ 11) : tripleOfRate r = ⟨BitVec.ofNat 2 r, 1, 11 - r / 4⟩ :=
  if_neg (by omega)

theorem tripleOfRate_of_high {r : Nat} (h : 12 ≤ r / 4) : tripleOfRate r = ⟨BitVec.ofNat 2 r, 2 ^ (r / 4 - 12), 0⟩ :=
  if_pos h

theorem tripleOfRate_sel (r : Nat) : (tripleOfRate r).sel = BitVec.ofNat 2 r := by
  unfold tripleOfRate
  simp only
  split <;> rfl

theorem effectiveRate_eq_shiftRight :
    effectiveRate o kc = min (2 * stageRate o + (kc.toNat >>> (3 - o.ks.toNat))) 63 := by
  rw [effectiveRate, keyScaledOffset_eq_shiftRight]

end Rates

/-- Settles O60. -/
theorem rateTripleSplitsAtTwelve : Obligations.RateTripleSplitsAtTwelve := by
  refine ⟨fun o => ⟨rfl, stageRate_le o⟩, fun o kc hrate => ?_⟩
  intro r g
  have htriple : rateOf o kc = tripleOfRate r := by
    rw [rateOf_of_stageRate_ne_zero kc hrate, effectiveRate_eq_shiftRight]
  rw [htriple]
  refine ⟨?_, fun hlow => ?_, fun hhigh => ?_⟩
  · rw [tripleOfRate_sel, BitVec.toNat_ofNat]
  · rw [tripleOfRate_of_low hlow]
    exact ⟨rfl, rfl⟩
  · rw [tripleOfRate_of_high hhigh]
    exact ⟨rfl, rfl⟩

/-! ### The gate and the update -/

section Tick
variable {cfg : Config} {kc : BitVec 5} {o : Operator}

theorem gateOpen_iff (r : RateTriple) (clk : BitVec 32) : gateOpen r clk = true ↔ clk.toNat % 2 ^ r.shift = 0 := by
  simp [gateOpen]

theorem envIncrement_eq_shiftRight (cfg : Config) (r : RateTriple) (clk : BitVec 32) :
    envIncrement cfg r clk = cfg.rateIncTab r.sel (BitVec.ofNat 3 (clk.toNat >>> r.shift)) * r.mul := by
  rw [envIncrement, Nat.shiftRight_eq_div_pow]

/-- R147: a closed gate leaves only the clock advance. -/
theorem envelopeTick_of_closed (h : ¬ gateOpen (rateOf o kc) o.egClock = true) :
    envelopeTick cfg kc o = { o with egClock := o.egClock + 1#32 } := by
  rw [envelopeTick, gatedUpdate_of_closed h, advanceClock]

theorem envelopeTick_of_open (h : gateOpen (rateOf o kc) o.egClock = true) :
    envelopeTick cfg kc o = advanceClock (envUpdate (envIncrement cfg (rateOf o kc) o.egClock) o) := by
  rw [envelopeTick, gatedUpdate_of_open h]

theorem envUpdate_of_attack (inc : Nat) (h : o.egState = .attack) : envUpdate inc o = attackUpdate inc o := by
  simp [envUpdate, h]

theorem envUpdate_of_decay (inc : Nat) (h : o.egState = .decay) : envUpdate inc o = decayUpdate inc o := by
  simp [envUpdate, h]

theorem envUpdate_of_release (inc : Nat) (h : o.egState = .release) : envUpdate inc o = releaseUpdate inc o := by
  simp [envUpdate, h]

theorem envUpdate_of_off (inc : Nat) (h : o.egState = .off) : envUpdate inc o = o := by
  simp [envUpdate, h]

/-! ### DECAY and RELEASE -/

theorem sustainThreshold_eq (sl : BitVec 4) : sustainThreshold sl = if sl = 15#4 then 992 else 32 * sl.toNat := by
  unfold sustainThreshold
  split <;> omega

theorem releaseUpdate_of_end {inc : Nat} (h : 1023 ≤ o.env.toNat + inc) :
    releaseUpdate inc o = { o with env := 1023#10, egState := .off } :=
  if_pos h

theorem releaseUpdate_of_short {inc : Nat} (h : ¬ 1023 ≤ o.env.toNat + inc) :
    releaseUpdate inc o = { o with env := BitVec.ofNat 10 (o.env.toNat + inc) } :=
  if_neg h

/-- R152: the state after a RELEASE update is read off the attenuation after it. -/
theorem releaseUpdate_egState_of_env (inc : Nat) (h : o.egState = .release) :
    (releaseUpdate inc o).egState = if (releaseUpdate inc o).env = 1023#10 then .off else .release := by
  have henv := releaseUpdate_env inc o
  have hiff : (releaseUpdate inc o).env = 1023#10 ↔ 1023 ≤ o.env.toNat + inc := by
    rw [← BitVec.toNat_inj, henv, BitVec.toNat_ofNat]
    omega
  simp only [releaseUpdate_egState, h, hiff]

/-- Settles O40. -/
theorem decayAndReleaseTicksAddAndEnd : Obligations.DecayAndReleaseTicksAddAndEnd := by
  intro cfg kc o isOpen inc p
  have hinc : envIncrement cfg (rateOf o kc) o.egClock = inc := envIncrement_eq_shiftRight ..
  have hgate : gateOpen (rateOf o kc) o.egClock = true ↔ isOpen := gateOpen_iff ..
  refine ⟨fun hclosed => envelopeTick_of_closed (mt hgate.mp hclosed), fun hopen hstate => ?_, fun hopen hstate => ?_⟩
  · have hp : p = advanceClock (decayUpdate inc o) := by
      rw [← envUpdate_of_decay inc hstate, ← hinc]
      exact envelopeTick_of_open (hgate.mpr hopen)
    rw [hp, advanceClock_env, advanceClock_egState, decayUpdate_egState, decayUpdate_env, sustainThreshold_eq, hstate]
    exact ⟨rfl, rfl⟩
  · have hp : p = advanceClock (releaseUpdate inc o) := by
      rw [← envUpdate_of_release inc hstate, ← hinc]
      exact envelopeTick_of_open (hgate.mpr hopen)
    rw [hp, advanceClock_env, advanceClock_egState]
    exact ⟨releaseUpdate_env inc o, releaseUpdate_egState_of_env inc hstate⟩

/-- Settles O43: clock 0 opens every gate, and from 1023 any increment ends the release. -/
theorem firstTickAfterResetTurnsOff : Obligations.FirstTickAfterResetTurnsOff := by
  intro cfg kc o hstate henv hclk
  have hopen : gateOpen (rateOf o kc) o.egClock = true := by rw [gateOpen_iff, hclk]; exact Nat.zero_mod _
  have hend : 1023 ≤ o.env.toNat + envIncrement cfg (rateOf o kc) o.egClock := by
    rw [henv, BitVec.toNat_ofNat]
    omega
  rw [envelopeTick_of_open hopen, envUpdate_of_release _ hstate, releaseUpdate_of_end hend]
  exact ⟨rfl, rfl⟩

/-! ### ATTACK -/

/-- R148: the state after an ATTACK update is read off the attenuation after it. -/
theorem attackUpdate_egState_of_env (inc : Nat) (h : o.egState = .attack) :
    (attackUpdate inc o).egState = if (attackUpdate inc o).env = 0#10 then .decay else .attack := by
  have henv := attackUpdate_env inc o
  have hiff : (attackUpdate inc o).env = 0#10 ↔
      (o.env.toNat : Int) + asr ((-(o.env.toNat : Int) - 1) * inc) 4 ≤ 0 := by
    rw [← BitVec.toNat_inj, BitVec.toNat_ofNat]
    omega
  simp only [attackUpdate_egState, h, hiff]

theorem attackUpdate_decay_iff (inc : Nat) (h : o.egState = .attack) :
    (attackUpdate inc o).egState = .decay ↔ (attackUpdate inc o).env = 0#10 := by
  rw [attackUpdate_egState_of_env inc h]
  split <;> simp [*]

/-- An ATTACK update with increment 0 keeps the attenuation (D36). -/
theorem attackUpdate_env_of_zero (o : Operator) : (attackUpdate 0 o).env = o.env := by
  have henv := attackUpdate_env 0 o
  apply BitVec.eq_of_toNat_eq
  simp [asr] at henv
  omega

/-- An ATTACK update with a larger increment takes at least one off any attenuation above 0 (R148). -/
theorem attackUpdate_env_lt {inc : Nat} (hinc : 0 < inc) (henv : 0 < o.env.toNat) :
    (attackUpdate inc o).env.toNat < o.env.toNat := by
  have htarget := attackUpdate_env inc o
  have hstep : asr ((-(o.env.toNat : Int) - 1) * inc) 4 < 0 := by
    have hneg : (-(o.env.toNat : Int) - 1) * inc < 0 := mul_neg_of_neg_of_pos (by omega) (by omega)
    exact Int.ediv_neg_of_neg_of_pos hneg (by decide)
  omega

/-- An ATTACK tick with its gate open: the update's attenuation, the state read off it, and the clock one on. -/
theorem envelopeTick_of_attack (hopen : gateOpen (rateOf o kc) o.egClock = true) (h : o.egState = .attack) :
    envelopeTick cfg kc o =
      let env := (attackUpdate (envIncrement cfg (rateOf o kc) o.egClock) o).env
      { o with env := env, egState := if env = 0#10 then .decay else .attack, egClock := o.egClock + 1#32 } := by
  rw [envelopeTick_eq, gatedUpdate_of_open hopen, envUpdate_of_attack _ h, attackUpdate_egState_of_env _ h]

/-- Settles O41. -/
theorem attackUpdateFalls : Obligations.AttackUpdateFalls := by
  refine ⟨fun cfg kc o hstate => ?_, fun inc o hstate => ⟨fun hinc => ?_, fun hinc henv =>
    attackUpdate_env_lt hinc henv, attackUpdate_decay_iff inc hstate⟩⟩
  · intro isOpen inc env p
    have hinc : envIncrement cfg (rateOf o kc) o.egClock = inc := envIncrement_eq_shiftRight ..
    have hgate : gateOpen (rateOf o kc) o.egClock = true ↔ isOpen := gateOpen_iff ..
    refine ⟨fun hclosed => envelopeTick_of_closed (mt hgate.mp hclosed), fun hopen => ?_⟩
    have hp := envelopeTick_of_attack (cfg := cfg) (hgate.mpr hopen) hstate
    rw [hinc] at hp
    have henv : p.env = (attackUpdate inc o).env := by simp only [p, hp]
    rw [henv]
    exact ⟨attackUpdate_env inc o, hp⟩
  · subst hinc
    exact ⟨attackUpdate_env_of_zero o, by rw [attackUpdate_decay_iff 0 hstate, attackUpdate_env_of_zero]⟩

/-! ### Monotonicity -/

theorem attackUpdate_env_le (inc : Nat) (o : Operator) : (attackUpdate inc o).env.toNat ≤ o.env.toNat := by
  have henv := attackUpdate_env inc o
  have hle := attack_target_le o.env.toNat inc
  omega

/-- R149, R151 and R152: outside ATTACK an update only adds. -/
theorem le_envUpdate_env (inc : Nat) (h : o.egState ≠ .attack) : o.env.toNat ≤ (envUpdate inc o).env.toNat := by
  have hlt : o.env.toNat < 1024 := o.env.isLt
  cases hstate : o.egState with
  | attack => exact absurd hstate h
  | decay => rw [envUpdate_of_decay _ hstate, decayUpdate_env]; omega
  | sustain => rw [envUpdate_of_sustain _ hstate, sustainUpdate_env]; omega
  | release => rw [envUpdate_of_release _ hstate, releaseUpdate_env]; omega
  | off => rw [envUpdate_of_off _ hstate]

/-- Settles O42. -/
theorem envelopeIsMonotone : Obligations.EnvelopeIsMonotone := by
  intro cfg kc o
  by_cases hopen : gateOpen (rateOf o kc) o.egClock = true
  · rw [envelopeTick_of_open hopen, advanceClock_env]
    refine ⟨fun hstate => ?_, le_envUpdate_env _⟩
    rw [envUpdate_of_attack _ hstate]
    exact attackUpdate_env_le _ o
  · rw [envelopeTick_of_closed hopen]
    exact ⟨fun _ => Nat.le_refl _, fun _ => Nat.le_refl _⟩

/-! ### The clock bits that are read -/

/-- Two clocks that agree on their low 14 bits open the same gates: a gate reads at most 11 (R147). -/
theorem gateOpen_congr {r : RateTriple} {clk clk' : BitVec 32} (hshift : r.shift ≤ 11)
    (h : clk.toNat % 2 ^ 14 = clk'.toNat % 2 ^ 14) : gateOpen r clk = gateOpen r clk' := by
  have hdvd : 2 ^ r.shift ∣ 2 ^ 14 := Nat.pow_dvd_pow 2 (by omega)
  rw [gateOpen, gateOpen, ← Nat.mod_mod_of_dvd clk.toNat hdvd, h, Nat.mod_mod_of_dvd _ hdvd]

/-- The column reads three bits above the gate's, so bits 13:0 in all (R147, D9). -/
theorem envIncrement_congr {r : RateTriple} {clk clk' : BitVec 32} (hshift : r.shift ≤ 11)
    (h : clk.toNat % 2 ^ 14 = clk'.toNat % 2 ^ 14) : envIncrement cfg r clk = envIncrement cfg r clk' := by
  have hdvd : 2 ^ r.shift * 8 ∣ 2 ^ 14 := by
    rw [show 2 ^ r.shift * 8 = 2 ^ (r.shift + 3) from (Nat.pow_add 2 r.shift 3).symm]
    exact Nat.pow_dvd_pow 2 (by omega)
  have hcolumn : clk.toNat / 2 ^ r.shift % 8 = clk'.toNat / 2 ^ r.shift % 8 := by
    rw [← Nat.mod_mul_right_div_self, ← Nat.mod_mul_right_div_self, ← Nat.mod_mod_of_dvd clk.toNat hdvd, h,
      Nat.mod_mod_of_dvd _ hdvd]
  have hcolumn' : BitVec.ofNat 3 (clk.toNat / 2 ^ r.shift) = BitVec.ofNat 3 (clk'.toNat / 2 ^ r.shift) :=
    BitVec.eq_of_toNat_eq hcolumn
  rw [envIncrement, envIncrement, hcolumn']

section Clock
variable (inc : Nat) (o : Operator) (clk : BitVec 32)

/-! No update reads the clock. -/

theorem attackUpdate_setClock :
    attackUpdate inc { o with egClock := clk } = { attackUpdate inc o with egClock := clk } := by
  unfold attackUpdate
  simp only
  split <;> rfl

theorem decayUpdate_setClock :
    decayUpdate inc { o with egClock := clk } = { decayUpdate inc o with egClock := clk } := by
  unfold decayUpdate raisedEnv
  simp only
  split <;> rfl

theorem releaseUpdate_setClock :
    releaseUpdate inc { o with egClock := clk } = { releaseUpdate inc o with egClock := clk } := by
  unfold releaseUpdate
  simp only
  split <;> rfl

theorem envUpdate_setClock : envUpdate inc { o with egClock := clk } = { envUpdate inc o with egClock := clk } := by
  cases hstate : o.egState <;> simp only [envUpdate, hstate]
  case attack => simpa only [hstate] using attackUpdate_setClock inc o clk
  case decay => simpa only [hstate] using decayUpdate_setClock inc o clk
  case sustain => rw [sustainUpdate, sustainUpdate, ← hstate]; rfl
  case release => simpa only [hstate] using releaseUpdate_setClock inc o clk

end Clock

/-- Settles O46: the gate and the column read bits 13:0, and the clock's advance carries no bit downwards. -/
theorem onlyFourteenClockBitsAreRead : Obligations.OnlyFourteenClockBitsAreRead := by
  intro cfg kc o clk hbits a b
  have hlow : clk.toNat % 2 ^ 14 = o.egClock.toNat % 2 ^ 14 := by
    simpa [← BitVec.toNat_inj, BitVec.extractLsb'_toNat] using hbits
  have hshift := rateOf_shift_le o kc
  have hgate : gateOpen (rateOf o kc) clk = gateOpen (rateOf o kc) o.egClock := gateOpen_congr hshift hlow
  have hgated : gatedUpdate cfg kc { o with egClock := clk } = { gatedUpdate cfg kc o with egClock := clk } := by
    by_cases hopen : gateOpen (rateOf o kc) o.egClock = true
    · rw [gatedUpdate_of_open hopen, gatedUpdate_of_open (o := { o with egClock := clk }) (hgate.trans hopen),
        envUpdate_setClock, ← envIncrement_congr hshift hlow]
      rfl
    · rw [gatedUpdate_of_closed hopen,
        gatedUpdate_of_closed (o := { o with egClock := clk }) fun h => hopen (hgate.symm.trans h)]
  refine ⟨?_, ?_⟩
  · change advanceClock (gatedUpdate cfg kc { o with egClock := clk }) = _
    rw [hgated]
    rfl
  · have ha : a.egClock = o.egClock + 1#32 := by simp only [a, envelopeTick_eq]
    rw [ha, ← BitVec.toNat_inj]
    simp only [BitVec.extractLsb'_toNat, BitVec.toNat_add, BitVec.toNat_ofNat, Nat.shiftRight_zero]
    omega

end Tick

end Sys2Proof.Machine
end

section
/-! PROOFS. How long an envelope lasts under the default tables (R146): a release reaches OFF within 2^22 ticks, and a
full-rate attack takes twelve; then the obligations that follow (O44, O45). -/

namespace Sys2Proof.Machine

/-- A tick that keeps the state keeps the rate triple: it writes no other field the rates read (R157). -/
theorem rateOf_envelopeTick {cfg : Config} {kc kc' : BitVec 5} {o : Operator}
    (h : (envelopeTick cfg kc o).egState = o.egState) : rateOf (envelopeTick cfg kc o) kc' = rateOf o kc' := by
  rw [envelopeTick_eq] at h ⊢
  simp only at h
  rw [h]
  rfl

/-! ### The ticks up to the next rise -/

/-- The ticks a clock runs, at a shift, to the next value whose gate is open and whose column is odd. -/
def ticksToRise (shift : Nat) (clk : BitVec 32) : Nat :=
  if clk.toNat % (2 ^ shift * 2) ≤ 2 ^ shift then 2 ^ shift - clk.toNat % (2 ^ shift * 2)
  else 3 * 2 ^ shift - clk.toNat % (2 ^ shift * 2)

section Rise
variable {shift : Nat} {clk : BitVec 32}

theorem ticksToRise_lt (h : shift ≤ 11) : ticksToRise shift clk < 4096 := by
  have hpow : 2 ^ shift ≤ 2 ^ 11 := Nat.pow_le_pow_right (by decide) h
  have hpos : 0 < 2 ^ shift := Nat.two_pow_pos shift
  unfold ticksToRise
  split <;> omega

/-- At a rise the gate is open and the column is odd. -/
theorem rise_of_ticksToRise_zero (h : ticksToRise shift clk = 0) :
    clk.toNat % 2 ^ shift = 0 ∧ clk.toNat / 2 ^ shift % 2 = 1 := by
  have hpos : 0 < 2 ^ shift := Nat.two_pow_pos shift
  have hlt : clk.toNat % (2 ^ shift * 2) < 2 ^ shift * 2 := Nat.mod_lt _ (by omega)
  have hmod : clk.toNat % (2 ^ shift * 2) = 2 ^ shift := by
    unfold ticksToRise at h
    split at h <;> omega
  constructor
  · rw [← Nat.mod_mul_right_mod clk.toNat (2 ^ shift) 2, hmod, Nat.mod_self]
  · rw [← Nat.mod_mul_right_div_self, hmod, Nat.div_self hpos]

/-- Between two rises every tick brings the next one nearer. -/
theorem ticksToRise_succ (hshift : shift ≤ 11) (h : ticksToRise shift clk ≠ 0) :
    ticksToRise shift (clk + 1#32) + 1 = ticksToRise shift clk := by
  have hpos : 0 < 2 ^ shift := Nat.two_pow_pos shift
  have hdvd : 2 ^ shift * 2 ∣ 2 ^ 32 := Nat.pow_dvd_pow 2 (show shift + 1 ≤ 32 by omega)
  have hlt : clk.toNat % (2 ^ shift * 2) < 2 ^ shift * 2 := Nat.mod_lt _ (by omega)
  have hnext : (clk + 1#32).toNat % (2 ^ shift * 2) =
      if clk.toNat % (2 ^ shift * 2) + 1 = 2 ^ shift * 2 then 0 else clk.toNat % (2 ^ shift * 2) + 1 := by
    rw [BitVec.toNat_add, Nat.mod_mod_of_dvd _ hdvd, BitVec.toNat_ofNat, Nat.mod_eq_of_lt (show 1 < 2 ^ 32 by decide),
      ← Nat.mod_add_mod]
    split
    case isTrue hwrap => rw [hwrap, Nat.mod_self]
    case isFalse hno => exact Nat.mod_eq_of_lt (by omega)
  unfold ticksToRise at h ⊢
  rw [hnext]
  split_ifs at h ⊢ <;> omega

end Rise

/-! ### RELEASE -/

/-- R146: every odd column of the default table is 1. -/
theorem rateIncDefault_pos : ∀ (sel : BitVec 2) (col : BitVec 3), col.toNat % 2 = 1 → 1 ≤ rateIncDefault sel col := by
  decide

theorem tripleOfRate_mul_pos (r : Nat) : 1 ≤ (tripleOfRate r).mul := by
  unfold tripleOfRate
  simp only
  split
  · exact Nat.two_pow_pos _
  · exact Nat.le_refl 1

/-- A bound on the ticks a released operator has left: 4096 for each step of attenuation, and those to the next rise. -/
def ticksToOff (kc : BitVec 5) (o : Operator) : Nat :=
  (1023 - o.env.toNat) * 4096 + ticksToRise (rateOf o kc).shift o.egClock

section Release
variable {kc : BitVec 5} {o : Operator}

/-- At a rise the increment of a released operator is at least 1, for its stage rate is never 0 (R141). -/
theorem envIncrement_pos_of_rise (hstate : o.egState = .release)
    (hrise : ticksToRise (rateOf o kc).shift o.egClock = 0) :
    1 ≤ envIncrement defaultConfig (rateOf o kc) o.egClock := by
  obtain ⟨-, hodd⟩ := rise_of_ticksToRise_zero hrise
  have hrate : stageRate o ≠ 0 := by simp [stageRate, hstate]
  have hmul : 1 ≤ (rateOf o kc).mul := by
    rw [rateOf_of_stageRate_ne_zero kc hrate]
    exact tripleOfRate_mul_pos _
  have hcolumn : (BitVec.ofNat 3 (o.egClock.toNat / 2 ^ (rateOf o kc).shift)).toNat % 2 = 1 := by
    rw [BitVec.toNat_ofNat]
    omega
  exact Nat.mul_pos (rateIncDefault_pos _ _ hcolumn) hmul

/-- A tick of a released operator ends the release, or leaves it fewer ticks. -/
theorem release_tick (hstate : o.egState = .release) :
    ((envelopeTick defaultConfig kc o).egState = .off ∧ (envelopeTick defaultConfig kc o).env = 1023#10) ∨
    ((envelopeTick defaultConfig kc o).egState = .release ∧
      ticksToOff kc (envelopeTick defaultConfig kc o) < ticksToOff kc o) := by
  have hshift := rateOf_shift_le o kc
  have henv : o.env.toNat < 1024 := o.env.isLt
  have hlt := ticksToRise_lt (clk := o.egClock + 1#32) hshift
  by_cases hopen : gateOpen (rateOf o kc) o.egClock = true
  · have htick := envelopeTick_of_open (cfg := defaultConfig) hopen
    rw [envUpdate_of_release _ hstate] at htick
    by_cases hend : 1023 ≤ o.env.toNat + envIncrement defaultConfig (rateOf o kc) o.egClock
    · rw [releaseUpdate_of_end hend] at htick
      rw [htick]
      exact .inl ⟨rfl, rfl⟩
    · rw [releaseUpdate_of_short hend] at htick
      have hkept : (envelopeTick defaultConfig kc o).egState = o.egState := by rw [htick]; rfl
      refine .inr ⟨hkept.trans hstate, ?_⟩
      rw [ticksToOff, rateOf_envelopeTick hkept, htick, advanceClock_env, advanceClock_egClock, BitVec.toNat_ofNat,
        ticksToOff]
      dsimp only
      by_cases hrise : ticksToRise (rateOf o kc).shift o.egClock = 0
      · have hinc := envIncrement_pos_of_rise hstate hrise
        omega
      · have hnext := ticksToRise_succ hshift hrise
        omega
  · have hrise : ticksToRise (rateOf o kc).shift o.egClock ≠ 0 := fun h =>
      hopen ((gateOpen_iff ..).mpr (rise_of_ticksToRise_zero h).1)
    have hnext := ticksToRise_succ hshift hrise
    rw [envelopeTick_of_closed hopen]
    refine .inr ⟨hstate, ?_⟩
    change (1023 - o.env.toNat) * 4096 + ticksToRise (rateOf o kc).shift (o.egClock + 1#32) < _
    rw [ticksToOff]
    omega

/-- A released operator is OFF once its ticks have run out, and stays so. -/
theorem off_after_ticks (n : Nat)
    (h : (o.egState = .release ∧ ticksToOff kc o < n) ∨ (o.egState = .off ∧ o.env = 1023#10)) :
    ((envelopeTick defaultConfig kc)^[n] o).egState = .off ∧ ((envelopeTick defaultConfig kc)^[n] o).env = 1023#10 := by
  induction n generalizing o with
  | zero => exact h.resolve_left fun h => Nat.not_lt_zero _ h.2
  | succ n ih =>
    rw [Function.iterate_succ_apply]
    apply ih
    obtain ⟨hstate, hticks⟩ | ⟨hstate, henv⟩ := h
    · obtain hoff | ⟨hrelease, hfewer⟩ := release_tick (kc := kc) hstate
      · exact .inr hoff
      · exact .inl ⟨hrelease, by omega⟩
    · rw [envelopeTick_of_off _ _ hstate]
      exact .inr ⟨hstate, henv⟩

end Release

/-- Settles O44: the ticks left are below 2^22 from the start. -/
theorem releaseAlwaysReachesOff : Obligations.ReleaseAlwaysReachesOff := by
  intro kc o n hstate hn
  refine off_after_ticks n (.inl ⟨hstate, ?_⟩)
  have hlt := ticksToRise_lt (clk := o.egClock) (rateOf_shift_le o kc)
  rw [ticksToOff]
  omega

/-! ### The attack at full rate -/

/-- The rate triple of effective rate 63 (R145). -/
def fullRate : RateTriple := ⟨3#2, 8, 0⟩

/-- The attenuation after each tick of an attack at full rate, from 1023 and clock 0. -/
def fullRateEnv : Nat → BitVec 10
  | 0 => 1023#10
  | n + 1 => (attackUpdate (envIncrement defaultConfig fullRate (BitVec.ofNat 32 n))
      { Operator.reset with env := fullRateEnv n }).env

/-- An operator n ticks into an attack at full rate. -/
def InFullRateAttack (kc : BitVec 5) (o : Operator) (n : Nat) : Prop :=
  o.egState = .attack ∧ o.env = fullRateEnv n ∧ o.egClock = BitVec.ofNat 32 n ∧ rateOf o kc = fullRate

theorem attackUpdate_env_congr (inc : Nat) {o p : Operator} (h : o.env = p.env) :
    (attackUpdate inc o).env = (attackUpdate inc p).env := by
  have ho := attackUpdate_env inc o
  have hp := attackUpdate_env inc p
  rw [h, ← hp] at ho
  exact BitVec.eq_of_toNat_eq (by omega)

section FullRate
variable {kc : BitVec 5} {o : Operator} {n : Nat}

/-- One tick of an attack at full rate: the next attenuation, and DECAY where it is 0. -/
theorem fullRate_tick (h : InFullRateAttack kc o n) :
    (envelopeTick defaultConfig kc o).env = fullRateEnv (n + 1) ∧
    (envelopeTick defaultConfig kc o).egState = (if fullRateEnv (n + 1) = 0#10 then .decay else .attack) ∧
    (envelopeTick defaultConfig kc o).egClock = BitVec.ofNat 32 (n + 1) := by
  obtain ⟨hstate, henv, hclk, hrate⟩ := h
  have hopen : gateOpen (rateOf o kc) o.egClock = true := by
    rw [hrate]
    exact gateOpen_of_shift_zero _ rfl
  have hnext : (attackUpdate (envIncrement defaultConfig (rateOf o kc) o.egClock) o).env = fullRateEnv (n + 1) := by
    rw [hrate, hclk]
    exact attackUpdate_env_congr _ henv
  rw [envelopeTick_of_attack hopen hstate, hnext, hclk]
  exact ⟨rfl, rfl, BitVec.ofNat_add .. |>.symm⟩

theorem fullRate_succ (h : InFullRateAttack kc o n) (hne : fullRateEnv (n + 1) ≠ 0#10) :
    InFullRateAttack kc (envelopeTick defaultConfig kc o) (n + 1) := by
  obtain ⟨henv, hstate, hclk⟩ := fullRate_tick h
  rw [if_neg hne] at hstate
  obtain ⟨hattack, -, -, hrate⟩ := h
  exact ⟨hstate, henv, hclk, (rateOf_envelopeTick (hstate.trans hattack.symm)).trans hrate⟩

theorem fullRate_iterate (h : InFullRateAttack kc o 0) (n : Nat) (hne : ∀ m < n, fullRateEnv (m + 1) ≠ 0#10) :
    InFullRateAttack kc ((envelopeTick defaultConfig kc)^[n] o) n := by
  induction n with
  | zero => exact h
  | succ n ih =>
    rw [Function.iterate_succ_apply']
    exact fullRate_succ (ih fun m hm => hne m (by omega)) (hne n (by omega))

end FullRate

/-- The attenuations 511, 255, ... of the first eleven ticks are above 0, the twelfth is 0. -/
theorem fullRateEnv_values :
    (∀ m < 11, fullRateEnv (m + 1) ≠ 0#10) ∧ fullRateEnv 11 = 1#10 ∧ fullRateEnv 12 = 0#10 := by
  decide

/-- Settles O45: the trace of the attenuations, run tick by tick. -/
theorem fullRateAttackTakesTwelveTicks : Obligations.FullRateAttackTakesTwelveTicks := by
  intro kc o hstate henv hclk har hrate
  obtain ⟨hne, heleven, htwelve⟩ := fullRateEnv_values
  have hstage : stageRate o ≠ 0 := by
    simpa [stageRate, hstate, ← BitVec.toNat_inj] using har
  have hstart : InFullRateAttack kc o 0 :=
    ⟨hstate, henv, hclk, by rw [rateOf_of_stageRate_ne_zero kc hstage, hrate]; rfl⟩
  have hattack := fullRate_iterate hstart 11 hne
  obtain ⟨henv12, hstate12, -⟩ := fullRate_tick hattack
  obtain ⟨hstate11, henv11, -⟩ := hattack
  rw [htwelve, if_pos rfl] at hstate12
  rw [Function.iterate_succ_apply' _ 11]
  exact ⟨hstate11, henv11.trans heleven, hstate12, henv12.trans htwelve⟩

end Sys2Proof.Machine
end
